-- ==== Sys2Proof/Word.lean ====
section
/-! DEFINITION. The word types of the Rilgap TC-10: a byte of a telegram, a value of the microsecond counter,
and the number of a lane. -/

namespace Sys2Proof

/-- One byte of a telegram or of the configuration memory. A station address is carried as a byte. -/
abbrev Byte := BitVec 8

/-- A value of the 32-bit microsecond tick counter (R41). -/
abbrev Tick := BitVec 32

/-- A lane of the pool, 0 to 9 (section 0.6). -/
abbrev Lane := Fin 10

end Sys2Proof
end

