-- ==== Sys2Proof/Machine/Bytes.lean ====
section
/-! DEFINITION. Byte order, flag bytes and the telegram check of the TC-10's lines (section 0.6, R2). -/

namespace Sys2Proof.Machine

/-- A 16-bit field, most significant byte first. -/
def be16 (v : BitVec 16) : List Byte := [v.extractLsb' 8 8, v.extractLsb' 0 8]

/-- A 24-bit field, most significant byte first. -/
def be24 (v : BitVec 24) : List Byte :=
  [v.extractLsb' 16 8, v.extractLsb' 8 8, v.extractLsb' 0 8]

/-- A 32-bit field, most significant byte first. -/
def be32 (v : BitVec 32) : List Byte :=
  [v.extractLsb' 24 8, v.extractLsb' 16 8, v.extractLsb' 8 8, v.extractLsb' 0 8]

/-- A natural number as one byte. -/
def byteOf (n : Nat) : Byte := BitVec.ofNat 8 n

/-- A natural number as a 16-bit field. -/
def nat16 (n : Nat) : List Byte := be16 (BitVec.ofNat 16 n)

/-- A natural number as a 32-bit field. -/
def nat32 (n : Nat) : List Byte := be32 (BitVec.ofNat 32 n)

/-- A signed number as a 16-bit field in two's complement. -/
def int16 (n : Int) : List Byte := be16 (BitVec.ofInt 16 n)

/-- A signed number as a 32-bit field in two's complement. -/
def int32 (n : Int) : List Byte := be32 (BitVec.ofInt 32 n)

/-- The number that a run of bytes spells, most significant byte first. -/
def number (bytes : List Byte) : Nat := bytes.foldl (fun n b => 256 * n + b.toNat) 0

/-- The byte at an offset of a body; bodies are tested for length before they are read. -/
def byteAt (bytes : List Byte) (k : Nat) : Byte := bytes.getD k 0

/-- The number at bytes `k`, `k + 1`, … of a body, `n` bytes long. -/
def field (bytes : List Byte) (k n : Nat) : Nat := number ((bytes.drop k).take n)

/-- The number whose bit `i` is the `i`-th of the flags. -/
def flagNumber : List Bool → Nat
  | [] => 0
  | f :: rest => (if f then 1 else 0) + 2 * flagNumber rest

/-- A flags byte: bit `i` is the `i`-th of the flags. -/
def flagByte (flags : List Bool) : Byte := byteOf (flagNumber flags)

/-- A mark as a byte: 1 when it is set, 0 when it is clear. -/
def markByte (mark : Bool) : Byte := flagByte [mark]

/-- `bytes` filled up to `n` with `fill`. -/
def padTo (n : Nat) (fill : Byte) (bytes : List Byte) : List Byte :=
  bytes ++ List.replicate (n - bytes.length) fill

/-- One bit of the check: shift, and subtract the generator x^16 + x^12 + x^5 + 1 when a one leaves (R2). -/
def crcShift (crc : BitVec 16) : BitVec 16 :=
  if crc.msb then (crc <<< 1) ^^^ 0x1021#16 else crc <<< 1

/-- One byte of the check, fed most significant bit first (R2). -/
def crcByte (crc : BitVec 16) (b : Byte) : BitVec 16 :=
  let c := crc ^^^ ((b.setWidth 16) <<< 8)
  crcShift (crcShift (crcShift (crcShift (crcShift (crcShift (crcShift (crcShift c)))))))

/-- The CRC-16 of a run of bytes, initial value all ones (R2). -/
def crc16 (bytes : List Byte) : BitVec 16 := bytes.foldl crcByte 0xFFFF#16

end Sys2Proof.Machine
end

