-- ==== Sys2Proof/Machine/Telegram.lean ====
section
/-! DEFINITION. The telegram frame, the telegram kinds and the order codes (chapter 1). -/

namespace Sys2Proof.Machine

/-- A telegram: the head fields of table 1-1 and the payload. The length field and the check follow from these. -/
structure Telegram where
  dest : Byte
  src : Byte
  kind : Byte
  payload : List Byte
deriving DecidableEq, Repr

/-- Kind codes of table 1-2. -/
def kindPoll : Byte := 16
def kindReport : Byte := 17
def kindLamp : Byte := 18
def kindQuery : Byte := 19
def kindAnswer : Byte := 20
def kindOrder : Byte := 32
def kindResponse : Byte := 33
def kindClock : Byte := 48
def kindSplit : Byte := 49
def kindFinish : Byte := 50
def kindPlace : Byte := 51
def kindResult : Byte := 52
def kindHeat : Byte := 53
def kindEvent : Byte := 54
def kindNotice : Byte := 55

/-- Destination that addresses all stations (R3). -/
def everyStation : Byte := 127

/-- Head and payload of a telegram: what the check is taken over (R2). -/
def headAndPayload (t : Telegram) : List Byte :=
  [t.dest, t.src, t.kind, byteOf t.payload.length] ++ t.payload

/-- The bytes of a telegram on the line (table 1-1), the check last and high byte first. -/
def frame (t : Telegram) : List Byte := headAndPayload t ++ be16 (crc16 (headAndPayload t))

/-- What the receiver makes of a run of bytes (R1). -/
inductive Received where
  /-- Not complete, or the length field is above 48. -/
  | incomplete
  /-- Complete, but its check fails. -/
  | checkFails
  /-- Complete and good. -/
  | good (t : Telegram)
deriving DecidableEq, Repr

/-- The receiver of either line: a telegram is complete when 6 + length bytes have been received, its length field at most
48, and good when the check over those bytes leaves zero; a byte behind them begins no telegram, since the line has not
been quiet (R1, R2). -/
def receive (bytes : List Byte) : Received :=
  match bytes with
  | dest :: src :: kind :: length :: rest =>
    if 48 < length.toNat ∨ rest.length < length.toNat + 2 then .incomplete
    else if crc16 (bytes.take (6 + length.toNat)) = 0#16 then .good ⟨dest, src, kind, rest.take length.toNat⟩
    else .checkFails
  | _ => .incomplete

/-- Item codes (section 1.1): the kinds of thing a station reports. -/
inductive ItemCode where
  | contact | release | press | marks | start | recall | generic
deriving DecidableEq, Repr

/-- The number of an item code. -/
def itemNumber : ItemCode → Nat
  | .contact => 1 | .release => 2 | .press => 3 | .marks => 4 | .start => 5 | .recall => 6 | .generic => 7

/-- The item code a number stands for; codes 0 and 8 to 15 stand for none (R4). -/
def itemOfNumber : Nat → Option ItemCode
  | 1 => some .contact | 2 => some .release | 3 => some .press | 4 => some .marks
  | 5 => some .start | 6 => some .recall | 7 => some .generic | _ => none

/-- The orders of table 1-5. -/
inductive OrderCode where
  | stat | lane | tread | treadTally | mailr | mailw | nclr | nqry | relh | crel
  | tload | arm | endh | abort | clear | mark | src | tset | tctl | save | trst
deriving DecidableEq, Repr

/-- The code of an order (table 1-5). -/
def orderNumber : OrderCode → Nat
  | .stat => 1 | .lane => 2 | .tread => 3 | .treadTally => 4 | .mailr => 5 | .mailw => 6 | .nclr => 7
  | .nqry => 8 | .relh => 9 | .crel => 10 | .tload => 16 | .arm => 17 | .endh => 18 | .abort => 19
  | .clear => 20 | .mark => 21 | .src => 22 | .tset => 23 | .tctl => 24 | .save => 25 | .trst => 26

/-- The order a code stands for (table 1-5). -/
def orderOfNumber : Nat → Option OrderCode
  | 1 => some .stat | 2 => some .lane | 3 => some .tread | 4 => some .treadTally | 5 => some .mailr
  | 6 => some .mailw | 7 => some .nclr | 8 => some .nqry | 9 => some .relh | 10 => some .crel
  | 16 => some .tload | 17 => some .arm | 18 => some .endh | 19 => some .abort | 20 => some .clear
  | 21 => some .mark | 22 => some .src | 23 => some .tset | 24 => some .tctl | 25 => some .save
  | 26 => some .trst | _ => none

/-- Status codes of a RESPONSE (table 1-5). -/
inductive Status where
  | ok | retry | notReady | busy | refused | noData | trunc | noResp
deriving DecidableEq, Repr

/-- The number of a status (table 1-5). -/
def statusNumber : Status → Nat
  | .ok => 0 | .retry => 1 | .notReady => 2 | .busy => 3 | .refused => 4 | .noData => 5 | .trunc => 6 | .noResp => 7

end Sys2Proof.Machine
end

