-- ==== Sys2Proof/Syntax.lean ====
section
/-! DEFINITION. The commands of the TC-10: one constructor for each row of spec/opcode_table.json, in the table's
order.

The table gives its rows no operands, so each constructor carries what the spec says the step takes from outside
the module:
* `now`: the value of the tick counter when the step is taken (for DECK_ANSWER, the arrival tick of R8);
* `bytes`: a complete answer as received on the deck line, check included;
* `src`, `tag`, `body`: the sender of a console order, its order tag, and the order body behind the four-byte head
  (table 1-4). An order of the referee panel comes inside the DECK_ANSWER that carries it. -/

namespace Sys2Proof

/-- How the write of the image ended at the two-wire memory (R177). -/
inductive SaveEnd where
  /-- The whole sequence was written, and the memory reads back as it was written. -/
  | complete
  /-- The whole sequence was written, and the memory then reads back as these bytes. -/
  | misread (image : List Byte)
  /-- The memory stopped acknowledging after this many bytes of the write sequence; behind the last one, at the
  read-back. -/
  | stopped (written : Nat)
deriving DecidableEq, Repr

/-- The commands of the block: the rows of spec/opcode_table.json. -/
inductive Instr where
  /-- POWER_ON (R175): release of the RESET input. `strapHigh` is the level of the HOLD strap at the release;
  `written` is how many bytes of a SAVE in progress had reached the memory (R178). -/
  | powerOn (strapHigh : Bool) (written : Nat)
  /-- LOAD_DONE (R175): the configuration load ends; `answers` tells whether the memory acknowledged and read back
  without fault on the two wires (R174). -/
  | loadDone (now : Tick) (answers : Bool)
  /-- SAVE_DONE (R177): the write of the image ends. -/
  | saveDone (now : Tick) (how : SaveEnd)
  /-- POLL (R7). -/
  | poll (now : Tick)
  /-- EMPTY_ROUND (R12). -/
  | emptyRound (now : Tick)
  /-- DECK_ANSWER (R10): a complete answer, taken at its arrival tick. -/
  | deckAnswer (now : Tick) (bytes : List Byte)
  /-- ANSWER_WINDOW_MISS (R7). -/
  | answerWindowMiss (now : Tick)
  /-- DECK_BAD_TELEGRAM (R1). -/
  | deckBadTelegram (now : Tick)
  /-- COMMAND_GAP (R21). -/
  | commandGap (now : Tick)
  /-- QUERY_SENT (R162). -/
  | querySent (now : Tick)
  /-- BOARD_BAD_TELEGRAM (R1). -/
  | boardBadTelegram (now : Tick)
  /-- SHORT_ORDER (R5): a board ORDER addressed to the module whose payload is shorter than 4 bytes. -/
  | shortOrder (now : Tick) (src : Byte) (payload : List Byte)
  /-- BOARD_NON_ORDER (R6): a board telegram addressed to the module with a kind other than ORDER. -/
  | boardNonOrder (now : Tick) (src kind : Byte) (payload : List Byte)
  /-- PASS_THROUGH (R140): a good board telegram with any other destination. -/
  | passThrough (now : Tick) (dest src kind : Byte) (payload : List Byte)
  /-- BOARD_SEND (R131). -/
  | boardSend (now : Tick)
  /-- ORDER_UNKNOWN_CODE (R150). -/
  | orderUnknownCode (now : Tick) (src tag code : Byte) (body : List Byte)
  /-- STAT (R151). -/
  | stat (now : Tick) (src tag : Byte) (body : List Byte)
  /-- LANE (R151). -/
  | lane (now : Tick) (src tag : Byte) (body : List Byte)
  /-- TREAD (R151). -/
  | tread (now : Tick) (src tag : Byte) (body : List Byte)
  /-- TREAD_TALLY (R173). -/
  | treadTally (now : Tick) (src tag : Byte) (body : List Byte)
  /-- MAILR (R164). -/
  | mailr (now : Tick) (src tag : Byte) (body : List Byte)
  /-- MAILW (R164). -/
  | mailw (now : Tick) (src tag : Byte) (body : List Byte)
  /-- NCLR (R166). -/
  | nclr (now : Tick) (src tag : Byte) (body : List Byte)
  /-- NQRY (R161). -/
  | nqry (now : Tick) (src tag : Byte) (body : List Byte)
  /-- RELH (R176). -/
  | relh (now : Tick) (src tag : Byte) (body : List Byte)
  /-- CREL (R155). -/
  | crel (now : Tick) (src tag : Byte) (body : List Byte)
  /-- TLOAD_FIRST (R157): a TLOAD that is not a continuation; the body begins with its chain mark. -/
  | tloadFirst (now : Tick) (src tag : Byte) (body : List Byte)
  /-- TLOAD_CONTINUATION (R159): a TLOAD whose chain mark, the first byte of the body, is 0. -/
  | tloadContinuation (now : Tick) (src tag : Byte) (body : List Byte)
  /-- ARM (R65). -/
  | arm (now : Tick) (src tag : Byte) (body : List Byte)
  /-- ENDH (R81). -/
  | endh (now : Tick) (src tag : Byte) (body : List Byte)
  /-- ABORT (R88). -/
  | abort (now : Tick) (src tag : Byte) (body : List Byte)
  /-- CLEAR (R89). -/
  | clear (now : Tick) (src tag : Byte) (body : List Byte)
  /-- MARK (R112). -/
  | mark (now : Tick) (src tag : Byte) (body : List Byte)
  /-- SRC (R123). -/
  | src (now : Tick) (src tag : Byte) (body : List Byte)
  /-- TSET (R171). -/
  | tset (now : Tick) (src tag : Byte) (body : List Byte)
  /-- TCTL_CONFIGURE (R172): TCTL whose action, the first byte of the body, is 1. -/
  | tctlConfigure (now : Tick) (src tag : Byte) (body : List Byte)
  /-- TCTL_FREEZE (R172): action 2. -/
  | tctlFreeze (now : Tick) (src tag : Byte) (body : List Byte)
  /-- TCTL_UNFREEZE (R172): action 3. -/
  | tctlUnfreeze (now : Tick) (src tag : Byte) (body : List Byte)
  /-- TCTL_ZERO (R172): action 4. -/
  | tctlZero (now : Tick) (src tag : Byte) (body : List Byte)
  /-- TCTL_CLEAR_OVERFLOW (R172): action 5. -/
  | tctlClearOverflow (now : Tick) (src tag : Byte) (body : List Byte)
  /-- TCTL_SET_MODE (R172): action 6. -/
  | tctlSetMode (now : Tick) (src tag : Byte) (body : List Byte)
  /-- TCTL_UNKNOWN_ACTION (R172): an action outside 1..6. -/
  | tctlUnknownAction (now : Tick) (src tag : Byte) (body : List Byte)
  /-- SAVE (R177). -/
  | save (now : Tick) (src tag : Byte) (body : List Byte)
  /-- TRST (R167). -/
  | trst (now : Tick) (src tag : Byte) (body : List Byte)
  /-- HEAT_LIMIT_EXPIRY (R82). -/
  | heatLimitExpiry (now : Tick)
  /-- RECALL_WINDOW_EXPIRY (R79). -/
  | recallWindowExpiry (now : Tick)
  /-- CLOCK_STEP_EXPIRY (R87). -/
  | clockStepExpiry (now : Tick)
  /-- BUTTON_WINDOW_EXPIRY (R85). -/
  | buttonWindowExpiry (now : Tick)
  /-- RESULT_HOLD_EXPIRY (R69). -/
  | resultHoldExpiry (now : Tick)
  /-- CLAIM_EXPIRY (R153). -/
  | claimExpiry (now : Tick)
  /-- HANDOVER_EXPIRY (R154). -/
  | handoverExpiry (now : Tick)
  /-- HOME_EXPIRY (R156). -/
  | homeExpiry (now : Tick)
  /-- CHAIN_GAP_EXPIRY (R159). -/
  | chainGapExpiry (now : Tick)
  /-- QUERY_ANSWER_EXPIRY (R162). -/
  | queryAnswerExpiry (now : Tick)
  /-- COLLECTION_EXPIRY (R163). -/
  | collectionExpiry (now : Tick)
  /-- LAMP_PHASE_STEP (R143). -/
  | lampPhaseStep (now : Tick)
deriving DecidableEq, Repr

end Sys2Proof
end

