-- ==== Sys2Proof/WellFormed.lean ====
section
/-! DEFINITION. Which commands the lines can bring: the ranges chapter 1 gives the fields of a telegram, and the class
of telegram or order each row of the table stands for. -/

namespace Sys2Proof

/-- A station address of either line: 1 to 126 (table 1-1). -/
def isStation (a : Byte) : Bool := 1 ≤ a.toNat && a.toNat ≤ 126

/-- A telegram's destination: a station, or 127 for all stations (table 1-1). -/
def isDestination (a : Byte) : Bool := 1 ≤ a.toNat && a.toNat ≤ 127

/-- A payload of at most 48 bytes (table 1-1). -/
def fitsPayload (payload : List Byte) : Bool := payload.length ≤ 48

/-- A console order: its sender is a station, and its body fits behind the four-byte head (tables 1-1, 1-4). -/
def isConsoleOrder (src : Byte) (body : List Byte) : Bool := isStation src && body.length ≤ 44

/-- A TCTL body with the given action (table 11-2). -/
def hasAction (action : Byte) (body : List Byte) : Bool := body.head? == some action

/-- Bytes that begin with a complete telegram: at least 6 + length of them, the length field at most 48 (R1). -/
def isComplete (bytes : List Byte) : Bool := Machine.receive bytes ≠ .incomplete

/-- A command is well formed when the line can bring it and it belongs to its row. That a memory which acknowledges no
byte of a SAVE, or every byte of it and then not the read-back, ends the SAVE as one that stopped during the write is the
model's choice (notes/assumptions/24.md). -/
def WellFormed : Instr → Bool
  | .powerOn _ written => written ≤ 752
  | .loadDone _ _ => true
  | .saveDone _ how =>
    match how with
    | .complete => true
    | .misread image => image.length = 750
    | .stopped written => written ≤ 752
  | .deckAnswer _ bytes => isComplete bytes
  | .poll _ | .emptyRound _ | .answerWindowMiss _ | .deckBadTelegram _ | .commandGap _ | .querySent _
  | .boardBadTelegram _ | .boardSend _ => true
  | .shortOrder _ src payload => isStation src && payload.length < 4
  | .boardNonOrder _ src kind payload => isStation src && kind ≠ Machine.kindOrder && fitsPayload payload
  | .passThrough _ dest src _ payload => isDestination dest && isStation src && fitsPayload payload
  | .orderUnknownCode _ src _ code body =>
    isConsoleOrder src body && (Machine.orderOfNumber code.toNat).isNone
  | .tloadFirst _ src _ body => isConsoleOrder src body && body.head? ≠ some 0
  | .tloadContinuation _ src _ body => isConsoleOrder src body && body.head? = some 0
  | .tctlConfigure _ src _ body => isConsoleOrder src body && hasAction 1 body
  | .tctlFreeze _ src _ body => isConsoleOrder src body && hasAction 2 body
  | .tctlUnfreeze _ src _ body => isConsoleOrder src body && hasAction 3 body
  | .tctlZero _ src _ body => isConsoleOrder src body && hasAction 4 body
  | .tctlClearOverflow _ src _ body => isConsoleOrder src body && hasAction 5 body
  | .tctlSetMode _ src _ body => isConsoleOrder src body && hasAction 6 body
  | .tctlUnknownAction _ src _ body =>
    isConsoleOrder src body && !([1, 2, 3, 4, 5, 6].any fun a => hasAction a body)
  | .stat _ src _ body | .lane _ src _ body | .tread _ src _ body | .treadTally _ src _ body
  | .mailr _ src _ body | .mailw _ src _ body | .nclr _ src _ body | .nqry _ src _ body | .relh _ src _ body
  | .crel _ src _ body | .arm _ src _ body | .endh _ src _ body | .abort _ src _ body | .clear _ src _ body
  | .mark _ src _ body | .src _ src _ body | .tset _ src _ body | .save _ src _ body | .trst _ src _ body =>
    isConsoleOrder src body
  | .heatLimitExpiry _ | .recallWindowExpiry _ | .clockStepExpiry _ | .buttonWindowExpiry _
  | .resultHoldExpiry _ | .claimExpiry _ | .handoverExpiry _ | .homeExpiry _ | .chainGapExpiry _
  | .queryAnswerExpiry _ | .collectionExpiry _ | .lampPhaseStep _ => true

end Sys2Proof
end

