-- ==== Sys2Proof/Decode.lean ====
section
/-! DEFINITION. What the lines spell. The rows of spec/opcode_table.json give no bits, so no table word spells a
command (`decodeTableWord`). What arrives on the board line is a run of bytes; `boardCommand` is the receiver of that
line (R1 to R6, R140), and `boardFrame` the bytes a console sends for a command. -/

namespace Sys2Proof

/-- The command a table word spells: none, since no row of the table gives bits. -/
def decodeTableWord (_nbits _w : Nat) : Option Instr := none

/-- The TCTL row of a body's action (table 11-3). -/
def tctlCommand (now : Tick) (src tag : Byte) (body : List Byte) : Instr :=
  match body.head? with
  | some 1 => .tctlConfigure now src tag body
  | some 2 => .tctlFreeze now src tag body
  | some 3 => .tctlUnfreeze now src tag body
  | some 4 => .tctlZero now src tag body
  | some 5 => .tctlClearOverflow now src tag body
  | some 6 => .tctlSetMode now src tag body
  | _ => .tctlUnknownAction now src tag body

/-- The row of a console order with a complete head (table 1-5; for TLOAD, its chain mark, R157 and R159). -/
def orderCommand (now : Tick) (src code tag : Byte) (body : List Byte) : Instr :=
  match Machine.orderOfNumber code.toNat with
  | none => .orderUnknownCode now src tag code body
  | some .stat => .stat now src tag body
  | some .lane => .lane now src tag body
  | some .tread => .tread now src tag body
  | some .treadTally => .treadTally now src tag body
  | some .mailr => .mailr now src tag body
  | some .mailw => .mailw now src tag body
  | some .nclr => .nclr now src tag body
  | some .nqry => .nqry now src tag body
  | some .relh => .relh now src tag body
  | some .crel => .crel now src tag body
  | some .tload =>
    if body.head? = some 0 then .tloadContinuation now src tag body else .tloadFirst now src tag body
  | some .arm => .arm now src tag body
  | some .endh => .endh now src tag body
  | some .abort => .abort now src tag body
  | some .clear => .clear now src tag body
  | some .mark => .mark now src tag body
  | some .src => .src now src tag body
  | some .tset => .tset now src tag body
  | some .tctl => tctlCommand now src tag body
  | some .save => .save now src tag body
  | some .trst => .trst now src tag body

/-- The command that a good board telegram is, for a module at `station` (R3, R5, R6, R140). The status and reason
bytes of an order's head are ignored (R5). -/
def telegramCommand (station : Byte) (now : Tick) (t : Machine.Telegram) : Instr :=
  if t.dest ≠ station then .passThrough now t.dest t.src t.kind t.payload
  else if t.kind ≠ Machine.kindOrder then .boardNonOrder now t.src t.kind t.payload
  else
    match t.payload with
    | code :: tag :: _ :: _ :: body => orderCommand now t.src code tag body
    | payload => .shortOrder now t.src payload

/-- The command that a run of bytes on the board line spells, for a module at `station` (R1). -/
def boardCommand (station : Byte) (now : Tick) (bytes : List Byte) : Instr :=
  match Machine.receive bytes with
  | .good t => telegramCommand station now t
  | _ => .boardBadTelegram now

/-- The telegram a console sends to a module at `station` to spell an order. -/
def orderTelegram (station src : Byte) (code : Nat) (tag : Byte) (body : List Byte) : Machine.Telegram :=
  ⟨station, src, Machine.kindOrder, [Machine.byteOf code, tag, 0, 0] ++ body⟩

/-- The telegram that spells a command on the board line; none for a command that is not a good board telegram. -/
def boardTelegram (station : Byte) : Instr → Option Machine.Telegram
  | .shortOrder _ src payload => some ⟨station, src, Machine.kindOrder, payload⟩
  | .boardNonOrder _ src kind payload => some ⟨station, src, kind, payload⟩
  | .passThrough _ dest src kind payload => some ⟨dest, src, kind, payload⟩
  | .orderUnknownCode _ src tag code body => some (orderTelegram station src code.toNat tag body)
  | .stat _ src tag body => some (orderTelegram station src 1 tag body)
  | .lane _ src tag body => some (orderTelegram station src 2 tag body)
  | .tread _ src tag body => some (orderTelegram station src 3 tag body)
  | .treadTally _ src tag body => some (orderTelegram station src 4 tag body)
  | .mailr _ src tag body => some (orderTelegram station src 5 tag body)
  | .mailw _ src tag body => some (orderTelegram station src 6 tag body)
  | .nclr _ src tag body => some (orderTelegram station src 7 tag body)
  | .nqry _ src tag body => some (orderTelegram station src 8 tag body)
  | .relh _ src tag body => some (orderTelegram station src 9 tag body)
  | .crel _ src tag body => some (orderTelegram station src 10 tag body)
  | .tloadFirst _ src tag body => some (orderTelegram station src 16 tag body)
  | .tloadContinuation _ src tag body => some (orderTelegram station src 16 tag body)
  | .arm _ src tag body => some (orderTelegram station src 17 tag body)
  | .endh _ src tag body => some (orderTelegram station src 18 tag body)
  | .abort _ src tag body => some (orderTelegram station src 19 tag body)
  | .clear _ src tag body => some (orderTelegram station src 20 tag body)
  | .mark _ src tag body => some (orderTelegram station src 21 tag body)
  | .src _ src tag body => some (orderTelegram station src 22 tag body)
  | .tset _ src tag body => some (orderTelegram station src 23 tag body)
  | .tctlConfigure _ src tag body => some (orderTelegram station src 24 tag body)
  | .tctlFreeze _ src tag body => some (orderTelegram station src 24 tag body)
  | .tctlUnfreeze _ src tag body => some (orderTelegram station src 24 tag body)
  | .tctlZero _ src tag body => some (orderTelegram station src 24 tag body)
  | .tctlClearOverflow _ src tag body => some (orderTelegram station src 24 tag body)
  | .tctlSetMode _ src tag body => some (orderTelegram station src 24 tag body)
  | .tctlUnknownAction _ src tag body => some (orderTelegram station src 24 tag body)
  | .save _ src tag body => some (orderTelegram station src 25 tag body)
  | .trst _ src tag body => some (orderTelegram station src 26 tag body)
  | .powerOn _ _ | .loadDone _ _ | .saveDone _ _ | .poll _ | .emptyRound _ | .deckAnswer _ _
  | .answerWindowMiss _ | .deckBadTelegram _ | .commandGap _ | .querySent _ | .boardBadTelegram _
  | .boardSend _ | .heatLimitExpiry _ | .recallWindowExpiry _ | .clockStepExpiry _ | .buttonWindowExpiry _
  | .resultHoldExpiry _ | .claimExpiry _ | .handoverExpiry _ | .homeExpiry _ | .chainGapExpiry _
  | .queryAnswerExpiry _ | .collectionExpiry _ | .lampPhaseStep _ => none

/-- The bytes on the board line that spell a command for a module at `station`. -/
def boardFrame (station : Byte) (c : Instr) : Option (List Byte) :=
  (boardTelegram station c).map Machine.frame

end Sys2Proof
end

