-- ==== Sys2Proof/Config.lean ====
section
/-! DEFINITION. What an implementation of the TC-10 fixes: the spans and bounds the manual states, and the one code
it leaves open. -/

namespace Sys2Proof.Config

/-- Length of the answer window in µs (R7). -/
def answerWindow : Nat := 60

/-- Quiet time left on the deck line after an empty round, in µs (R12). -/
def emptyRoundQuiet : Nat := 1000

/-- Byte gap of the board line in µs (R1, R131). -/
def boardGap : Nat := 40

/-- Line time of one byte on the board line in µs (section 8.2). -/
def boardByteTime : Nat := 10

/-- Places of the board queue (R129). -/
def boardPlaces : Nat := 32

/-- Pass-through telegrams the deck command queue holds at most (R19). -/
def passThroughBound : Nat := 4

/-- Miss count at which a station becomes ABSENT (R10). -/
def missLimit : Nat := 8

/-- Rest count at which an ABSENT entry is visited (R14). -/
def restLimit : Nat := 15

/-- Normal visits between priority slots (R13). -/
def normalVisits : Nat := 4

/-- Span of one clock step in µs (R45). -/
def clockStepSpan : Nat := 100000

/-- Span of the claim timer in µs: 1 s (R153). -/
def claimSpan : Nat := 1000000

/-- Span of the handover timer in µs: 50 ms (R153). -/
def handoverSpan : Nat := 50000

/-- Span of the home timer in µs: 2 s (R156). -/
def homeSpan : Nat := 2000000

/-- Gap limit of a load chain in µs: 100 ms (R159). -/
def chainGapSpan : Nat := 100000

/-- Answer limit of a node query in µs: 20 ms (R162). -/
def queryAnswerSpan : Nat := 20000

/-- Collection limit of a held query result in µs: 5 s (R162). -/
def collectionSpan : Nat := 5000000

/-- Span of one lamp phase in µs: 10 ms (R143). -/
def lampPhaseSpan : Nat := 10000

/-- Age that means "at least 40.95 ms" (R47). -/
def saturatedAge : Nat := 4095

/-- The byte TREAD and the stored image give for a node entry's end `none`, before `noneEnd` keeps it off the two
codes the manual assigns. No body: table 10-4 says only "0 START, 1 TURN, any other value none", so nothing may
rest on which of the others it is (notes/assumptions/9.md, DESIGN CHOICE). -/
opaque noneEndCode : Byte

/-- The code of an end `none`: some value other than 0 and 1 (table 10-4). -/
def noneEnd : Byte :=
  if noneEndCode.toNat < 2 then noneEndCode + 2 else noneEndCode

end Sys2Proof.Config
end

