-- ==== Sys2Proof/Machine/State.lean ====
section
/-! DEFINITION. The state of the TC-10, block by block as section 0.3 lists them, and the state right after POWER-ON. -/

namespace Sys2Proof.Machine

/-- No command of the TC-10 stops it: the manual names no fault, and the module has no address an access could miss. -/
inductive Fault where
deriving DecidableEq, Repr

/-- Why a command has no meaning. -/
inductive Refusal where
  /-- Raised by `exec` alone, for a command that is not modelled yet. Safe: nothing is claimed of it. -/
  | notModelled (mnemonic : String)
deriving DecidableEq, Repr

/-! ### Timers (section 3.2) -/

/-- A running timer: its reference tick, its span in µs, and the time counted since the reference tick. The time is
counted on, not recomputed from a signed difference (R43). A stopped timer is `none`. -/
structure Timer where
  reference : Tick
  span : Nat
  elapsed : Nat
deriving DecidableEq, Repr

/-- The running clock step timer: its reference tick, the time counted since, and the step count (R45). -/
structure StepTimer where
  reference : Tick
  elapsed : Nat
  count : Nat
deriving DecidableEq, Repr

/-! ### Node table and filter table (chapter 2) -/

/-- Kinds of node entry (table 2-1). -/
inductive NodeKind where
  | starter | block | pad | button | panel | other
deriving DecidableEq, Repr

/-- Ends of the pool. -/
inductive PoolEnd where
  | start | turn
deriving DecidableEq, Repr

/-- Contact modes of a pad (table 2-1). -/
inductive ContactMode where
  | edge | level
deriving DecidableEq, Repr

/-- Poll classes (table 2-1). -/
inductive PollClass where
  | normal | priority
deriving DecidableEq, Repr

/-- Presence of a station (table 1-12). -/
inductive Presence where
  | unknown | present | absent
deriving DecidableEq, Repr

/-- Contact state of an entry (R26). -/
inductive ContactState where
  | below | above
deriving DecidableEq, Repr

/-- The loaded fields of a node entry (table 2-1); latency compensation in µs. -/
structure NodeEntry where
  station : Byte
  kind : NodeKind
  lane : Option Lane
  poolEnd : Option PoolEnd
  position : Option Nat
  latency : Nat
  threshold : Nat
  mode : ContactMode
  pollClass : PollClass
deriving DecidableEq, Repr

/-- The runtime fields beside a loaded entry (table 2-2). -/
structure NodeRuntime where
  presence : Presence
  missCount : Nat
  restCount : Nat
  boost : Bool
  contact : ContactState
deriving DecidableEq, Repr

/-- A loaded node entry with its runtime fields. -/
structure Node where
  entry : NodeEntry
  run : NodeRuntime
deriving DecidableEq, Repr

/-- The node table: 64 entries, each empty or loaded. -/
abbrev NodeTable := Vector (Option Node) 64

/-- Filter actions (table 2-7). -/
inductive FilterAction where
  | consume | copy | forward | drop
deriving DecidableEq, Repr

/-- The loaded fields of a filter entry (table 2-5); bit n - 1 of `items` stands for item code n. -/
structure FilterEntry where
  stationValue : Byte
  stationMask : Byte
  items : BitVec 7
  action : FilterAction
deriving DecidableEq, Repr

/-- The filter table: 16 entries, each empty or loaded. -/
abbrev FilterTable := Vector (Option FilterEntry) 16

/-! ### Deck Poller (chapter 1) -/

/-- Classes of the deck command queue (R19); a LAMP names the lane it was produced for. -/
inductive DeckClass where
  | lamp (lane : Lane) | query | response | passThrough
deriving DecidableEq, Repr

/-- A telegram of the deck command queue. -/
structure DeckEntry where
  origin : DeckClass
  telegram : Telegram
deriving DecidableEq, Repr

/-- Where the poll exchange stands (section 1.2, R12, R21). -/
inductive DeckPhase where
  /-- The next exchange may be chosen. -/
  | ready
  /-- A POLL is out to this station; the answer window runs. -/
  | awaiting (station : Byte) (window : Timer)
  /-- The exchange has ended and its command gap is due. -/
  | gap
  /-- The quiet that follows an empty round. -/
  | quiet (timer : Timer)
deriving DecidableEq, Repr

/-- The Deck Poller: schedule position (section 1.3), exchange, deck command queue, and the telegram last put on the
deck line. `roundVisited` tells whether the round in hand has visited an entry (R12); `queryOnLine` whether a QUERY has
been taken onto the line and its end is still to come (R162). -/
structure DeckPoller where
  normalPointer : Fin 64
  normalCount : Nat
  priorityPointer : Option (Fin 64)
  roundVisited : Bool
  phase : DeckPhase
  queue : List DeckEntry
  line : Option Telegram
  queryOnLine : Bool
deriving DecidableEq, Repr

/-! ### Race Clock (chapter 3) -/

/-- The tick counter and the five heat timers (R41, R44). -/
structure RaceClock where
  tick : Tick
  heatLimit : Option Timer
  recallWindow : Option Timer
  clockStep : Option StepTimer
  buttonWindow : Option Timer
  resultHold : Option Timer
deriving DecidableEq, Repr

/-! ### Heat Bank Store (chapter 4) -/

/-- The heat head of a bank (table 4-1), limits in the units of that table. -/
structure HeatHead where
  event : Nat
  heat : Nat
  lengths : Nat
  legs : Nat
  minLength : Nat
  heatLimit : Nat
  recallWindow : Nat
  exchangeMargin : Nat
  discrepancy : Nat
  buttonWindow : Nat
  buttonArming : Nat
  resultHold : Nat
deriving DecidableEq, Repr

/-- A lane entry of a bank: whether it stands loaded, its occupied mark and its competitor code (table 4-1). -/
structure LaneEntry where
  loaded : Bool
  occupied : Bool
  competitor : BitVec 16
deriving DecidableEq, Repr

/-- A heat bank: EMPTY while its head is `none` (R57). -/
structure Bank where
  head : Option HeatHead
  lanes : Vector LaneEntry 10
deriving DecidableEq, Repr

/-- The two banks. -/
inductive BankName where
  | a | b
deriving DecidableEq, Repr

/-- The Heat Bank Store (R57). -/
structure BankStore where
  a : Bank
  b : Bank
  active : BankName
  pendingSwap : Bool
deriving DecidableEq, Repr

/-! ### Heat Controller (chapter 5) -/

/-- Heat states (table 5-1). -/
inductive HeatState where
  | idle | armed | marks | running | closing | closed
deriving DecidableEq, Repr

/-- The Heat Controller: heat state and start tick (R72). -/
structure HeatController where
  state : HeatState
  startTick : Option Tick
deriving DecidableEq, Repr

/-! ### Lane Judge (chapter 6) -/

/-- Lane states (table 6-2). -/
inductive LaneState where
  | vacant | waiting | swimming | finished | noTime
deriving DecidableEq, Repr

/-- One split: its length number and race time in µs, absent when inferred. -/
structure Split where
  length : Nat
  time : Option Int
deriving DecidableEq, Repr

/-- A release kept for later judging: its event tick and late indication. -/
structure HeldRelease where
  tick : Tick
  late : Bool
deriving DecidableEq, Repr

/-- Verdicts of an exchange. -/
inductive Verdict where
  | good | early | notJudged
deriving DecidableEq, Repr

/-- One entry of the exchange list: number, difference in µs if there is one, verdict. -/
structure Exchange where
  number : Nat
  difference : Option Int
  verdict : Verdict
deriving DecidableEq, Repr

/-- An exchange awaiting its release: its number and the event tick of the incoming touch. -/
structure AwaitingRelease where
  number : Nat
  tick : Tick
deriving DecidableEq, Repr

/-- One backup sample: button position and race time in µs. -/
structure Sample where
  position : Nat
  time : Int
deriving DecidableEq, Repr

/-- Sources of an official time. -/
inductive Source where
  | none | pad | backup
deriving DecidableEq, Repr

/-- The lane record (table 6-1). -/
structure LaneRecord where
  state : LaneState
  competitor : BitVec 16
  lengthCount : Nat
  splits : List Split
  lastTouch : Option Int
  reaction : Option Int
  marksRelease : Option HeldRelease
  early : Bool
  exchanges : List Exchange
  pendingRelease : Option HeldRelease
  awaitingRelease : Option AwaitingRelease
  samples : List Sample
  padFinish : Option Int
  official : Option Int
  source : Source
  discrepant : Bool
  late : Bool
  dq : Bool
  place : Option Nat
deriving DecidableEq, Repr

/-! ### Result Unit (chapter 7) -/

/-- The finish order list and the result revision (R113). -/
structure ResultUnit where
  order : List Lane
  revision : Nat
deriving DecidableEq, Repr

/-! ### Board Transmitter (chapter 8) -/

/-- The board queue, the place reservation, and the transmit pair: the telegram last taken onto it, and the timer that
runs until that telegram and the quiet behind it are over (R129, R131). -/
structure BoardTransmitter where
  queue : List Telegram
  reserved : Bool
  line : Option Telegram
  busy : Option Timer
deriving DecidableEq, Repr

/-! ### Lamp Generator (chapter 9) -/

/-- Forces of a place pattern (table 9-1). -/
inductive Force where
  | none | on | off
deriving DecidableEq, Repr

/-- A set of period and edges, in units of 10 ms. -/
structure PatternSet where
  period : Nat
  onEdge : Nat
  offEdge : Nat
deriving DecidableEq, Repr

/-- A place pattern (R142). -/
structure Pattern where
  live : PatternSet
  staged : Option PatternSet
  phase : Nat
  force : Force
deriving DecidableEq, Repr

/-- The lamp record of a lane (table 9-2); place p is held as pattern index p - 1, LIT as `true`. -/
structure LampRecord where
  assignment : Option (Fin 3)
  produced : Bool
  lineState : Bool
  recorded : Option Byte
deriving DecidableEq, Repr

/-- The Lamp Generator; `sincePhase` is the time in µs since the last phase step was due (R143). -/
structure LampGenerator where
  patterns : Vector Pattern 3
  records : Vector LampRecord 10
  sincePhase : Nat
deriving DecidableEq, Repr

/-! ### Order Handler (chapter 10) -/

/-- The two sides that send orders. -/
inductive Side where
  | console | panel
deriving DecidableEq, Repr

/-- Tables reached by TLOAD and TREAD (table 10-4). -/
inductive TableCode where
  | nodes | filters | bank | patterns | notices | settings
deriving DecidableEq, Repr

/-- The open load chain (section 10.3). -/
structure LoadChain where
  table : TableCode
  next : Nat
  toCome : Nat
  gap : Timer
deriving DecidableEq, Repr

/-- A node query: the station asked and the query bytes (R161). -/
structure Query where
  station : Byte
  bytes : List Byte
deriving DecidableEq, Repr

/-- The result of a node query. -/
inductive QueryResult where
  | answer (payload : List Byte) | noResponse
deriving DecidableEq, Repr

/-- The node query slot (section 10.4): WAITING with its answer timer once the QUERY is sent, HELD with its
collection timer. -/
inductive QuerySlot where
  | free
  | waiting (query : Query) (answer : Option Timer)
  | held (query : Query) (result : QueryResult) (collection : Timer)
deriving DecidableEq, Repr

/-- Notice kinds (table 1-11). -/
inductive NoticeKind where
  | nodeLost | nodeBack | earlyRelease | earlyTakeoff | discrepant | heatChange
  | mailbox | tallyOverflow | overrun | configInvalid | queryDone | chainAbort
deriving DecidableEq, Repr

/-- Directions of a notice (section 10.6). -/
inductive NoticeDirection where
  | board | panel
deriving DecidableEq, Repr

/-- A notice kind's status, enable and direction. -/
structure Notice where
  status : Bool
  enabled : Bool
  direction : NoticeDirection
deriving DecidableEq, Repr

/-- The Order Handler. The claim is the live claim of the side that does not own the channel (section 10.2). -/
structure OrderHandler where
  owner : Side
  claim : Option Timer
  handover : Option Timer
  home : Option Timer
  chain : Option LoadChain
  slot : QuerySlot
  mailboxes : Vector (Vector Byte 8) 4
  notices : Vector Notice 12
deriving DecidableEq, Repr

/-- Channel modes (R156). -/
inductive ChannelMode where
  | park | home
deriving DecidableEq, Repr

/-- The settings table (section 10.3); `toConsole` tells which mailboxes go from the panel to the console. -/
structure Settings where
  station : Byte
  mode : ChannelMode
  holdBit : Bool
  toConsole : Vector Bool 4
deriving DecidableEq, Repr

/-! ### Tally Unit (chapter 11) -/

/-- Tally events (table 11-1). -/
inductive TallyEvent where
  | touchAccepted | touchLockout | touchWrongEnd | touchIdle | touchLimit | releaseStray | releaseDup
  | pressAccepted | pressDup | pressStray | lateStamp | pollMiss | kindMismatch | startIgnored
  | boardDiscard | passDiscard | badCheck
deriving DecidableEq, Repr

/-- One counter (R168); bit 10 of the lane mask stands for "no lane". -/
structure TallyCounter where
  count : BitVec 24
  select : Nat
  laneMask : BitVec 11
  stationValue : Byte
  stationMask : Byte
  enabled : Bool
  overflowNotice : Bool
  overflow : Bool
deriving DecidableEq, Repr

/-- The Tally Unit (R168). -/
structure TallyUnit where
  counters : Vector TallyCounter 8
  frozen : Bool
  freezeOnOverflow : Bool
deriving DecidableEq, Repr

/-! ### Configuration Loader (chapter 12) -/

/-- The configuration memory: (address, byte) pairs, addresses rising, none equal to what an unlisted address reads. -/
structure Memory where
  cells : List Host.Cell
deriving DecidableEq, Repr

/-- What an address reads that nothing has written: 255, the byte of a blank memory (R174). -/
def unwrittenByte : Byte := 255

/-- The canonical form of the memory. -/
abbrev Memory.wf (m : Memory) : Prop :=
  m.cells.Pairwise (fun c d => c.1 < d.1) ∧ ∀ c ∈ m.cells, c.2 ≠ unwrittenByte

/-- Load states (R175). -/
inductive LoadState where
  | loading | done
deriving DecidableEq, Repr

/-- Save states (R177): WRITING holds the snapshot's image. -/
inductive SaveState where
  | idle
  | writing (image : List Byte)
deriving DecidableEq, Repr

/-- The Configuration Loader and the memory it reads and writes. -/
structure ConfigLoader where
  load : LoadState
  hold : Bool
  save : SaveState
  memory : Memory
deriving DecidableEq, Repr

/-! ### The whole module -/

/-- The state of the TC-10, and the commands that wait for it, first in first out. -/
structure State where
  clock : RaceClock
  nodes : NodeTable
  filters : FilterTable
  deck : DeckPoller
  banks : BankStore
  heat : HeatController
  lanes : Vector LaneRecord 10
  results : ResultUnit
  board : BoardTransmitter
  lamps : LampGenerator
  orders : OrderHandler
  settings : Settings
  tally : TallyUnit
  loader : ConfigLoader
  pending : List Instr
deriving DecidableEq, Repr

/-! ### Replacing one block of the state -/

/-- The state with another clock block. -/
def State.setClock (s : State) (x : RaceClock) : State := { s with clock := x }

/-- The state with another nodes block. -/
def State.setNodes (s : State) (x : NodeTable) : State := { s with nodes := x }

/-- The state with another filters block. -/
def State.setFilters (s : State) (x : FilterTable) : State := { s with filters := x }

/-- The state with another deck block. -/
def State.setDeck (s : State) (x : DeckPoller) : State := { s with deck := x }

/-- The state with another banks block. -/
def State.setBanks (s : State) (x : BankStore) : State := { s with banks := x }

/-- The state with another heat block. -/
def State.setHeat (s : State) (x : HeatController) : State := { s with heat := x }

/-- The state with another lanes block. -/
def State.setLanes (s : State) (x : Vector LaneRecord 10) : State := { s with lanes := x }

/-- The state with another results block. -/
def State.setResults (s : State) (x : ResultUnit) : State := { s with results := x }

/-- The state with another board block. -/
def State.setBoard (s : State) (x : BoardTransmitter) : State := { s with board := x }

/-- The state with another lamps block. -/
def State.setLamps (s : State) (x : LampGenerator) : State := { s with lamps := x }

/-- The state with another orders block. -/
def State.setOrders (s : State) (x : OrderHandler) : State := { s with orders := x }

/-- The state with another settings block. -/
def State.setSettings (s : State) (x : Settings) : State := { s with settings := x }

/-- The state with another tally block. -/
def State.setTally (s : State) (x : TallyUnit) : State := { s with tally := x }

/-- The state with another loader block. -/
def State.setLoader (s : State) (x : ConfigLoader) : State := { s with loader := x }

/-- The state with another pending block. -/
def State.setPending (s : State) (x : List Instr) : State := { s with pending := x }

/-! ### Start values -/

/-- The start values of a loaded entry's runtime fields (R11, R26). -/
def freshRuntime : NodeRuntime := ⟨.unknown, 0, 0, false, .below⟩

/-- The VACANT form of a lane record (R93). -/
def vacantRecord : LaneRecord where
  state := .vacant
  competitor := 0
  lengthCount := 0
  splits := []
  lastTouch := none
  reaction := none
  marksRelease := none
  early := false
  exchanges := []
  pendingRelease := none
  awaitingRelease := none
  samples := []
  padFinish := none
  official := none
  source := .none
  discrepant := false
  late := false
  dq := false
  place := none

/-- An unwritten lane entry: unoccupied with competitor code 0 (R57). -/
def unwrittenLaneEntry : LaneEntry := ⟨false, false, 0⟩

/-- A bank at POWER-ON (R57). -/
def emptyBank : Bank := ⟨none, Vector.replicate 10 unwrittenLaneEntry⟩

/-- Default of pattern 0: steady (table 12-2). -/
def steadyPattern : PatternSet := ⟨100, 0, 100⟩

/-- Default of patterns 1 and 2, and what emptying an entry stages: dark (table 12-2, R142). -/
def darkPattern : PatternSet := ⟨100, 0, 0⟩

/-- A pattern right after POWER-ON with the given live set (R142). -/
def freshPattern (live : PatternSet) : Pattern := ⟨live, none, 0, .none⟩

/-- A notice kind by default: clear, enabled toward BOARD (table 12-2). -/
def defaultNotice : Notice := ⟨false, true, .board⟩

/-- The default settings (table 12-2). -/
def defaultSettings : Settings := ⟨1, .park, false, Vector.replicate 4 false⟩

/-- A counter at POWER-ON (R168). -/
def freshCounter : TallyCounter := ⟨0, 0, BitVec.allOnes 11, 0, 0, false, false, false⟩

/-- The module right after POWER-ON: every block at its POWER-ON values, the tick counter at 0, LOADING, with the HOLD
strap as read and the memory as it stands. The settings and notice enables stand at their defaults until the load has
ended (notes/assumptions/4.md). Both lines stand idle at once, whatever was being sent on them, which is the model's choice
(notes/assumptions/29.md). -/
def powerOnState (strapHigh : Bool) (memory : Memory) (pending : List Instr) : State where
  clock := ⟨0, none, none, none, none, none⟩
  nodes := Vector.replicate 64 none
  filters := Vector.replicate 16 none
  deck := ⟨0, 0, none, false, .ready, [], none, false⟩
  banks := ⟨emptyBank, emptyBank, .a, false⟩
  heat := ⟨.idle, none⟩
  lanes := Vector.replicate 10 vacantRecord
  results := ⟨[], 0⟩
  board := ⟨[], false, none, none⟩
  lamps := ⟨#v[freshPattern steadyPattern, freshPattern darkPattern, freshPattern darkPattern],
    Vector.replicate 10 ⟨none, false, false, none⟩, 0⟩
  orders := ⟨.console, none, none, none, none, .free, Vector.replicate 4 (Vector.replicate 8 0),
    Vector.replicate 12 defaultNotice⟩
  settings := defaultSettings
  tally := ⟨Vector.replicate 8 freshCounter, false, false⟩
  loader := ⟨.loading, strapHigh, .idle, memory⟩
  pending := pending

/-- The machine right after reset: POWER-ON with the HOLD strap low and a blank memory
(notes/assumptions/3.md), no command waiting. -/
def State.reset : State := powerOnState false ⟨[]⟩ []

end Sys2Proof.Machine
end

