-- ==== Sys2Proof/Machine/Ops.lean ====
section
/-! DEFINITION. The named operations that the commands share: tables, timers and time, the tallies, the notices and the
board queue, the deck command queue, the node table, the banks. -/

namespace Sys2Proof.Machine

/-! ### Tables of a fixed size -/

/-- A table with one entry changed. -/
def modifyAt {α : Type} {n : Nat} (table : Vector α n) (i : Fin n) (f : α → α) : Vector α n :=
  table.set i (f table[i])

/-- A table with every entry changed. -/
def mapAll {α β : Type} {n : Nat} (table : Vector α n) (f : α → β) : Vector β n :=
  Vector.ofFn fun i => f table[i]

/-- The lanes in lane order, 0 to 9. -/
def allLanes : List Lane := List.finRange 10

/-! ### Tick arithmetic and timers (chapter 3) -/

/-- The difference of two ticks, modulo 2^32 and read signed (R42). -/
def tickDiff (b a : Tick) : Int := (b - a).toInt

/-- A timer started at tick `now` from a reference tick, which may lie in the past: the time already elapsed counts
toward the span (R43). -/
def startTimer (now reference : Tick) (span : Nat) : Timer := ⟨reference, span, (now - reference).toNat⟩

/-- A timer after `d` µs more. -/
def runTimer (d : Nat) (t : Timer) : Timer := { t with elapsed := t.elapsed + d }

/-- A timer has expired when the time elapsed since its reference tick has reached its span (R43). -/
def timerDue (t : Timer) : Bool := t.span ≤ t.elapsed

/-- A timer, running or stopped, whose expiry can be delivered. -/
def expired : Option Timer → Bool
  | none => false
  | some t => timerDue t

/-- The deck exchange after `d` µs more. -/
def runPhase (d : Nat) : DeckPhase → DeckPhase
  | .ready => .ready
  | .awaiting station window => .awaiting station (runTimer d window)
  | .gap => .gap
  | .quiet timer => .quiet (runTimer d timer)

/-- The node query slot after `d` µs more. -/
def runSlot (d : Nat) : QuerySlot → QuerySlot
  | .free => .free
  | .waiting query answer => .waiting query (answer.map (runTimer d))
  | .held query result collection => .held query result (runTimer d collection)

/-- The Race Clock moved on to tick `now` (R41, R43). -/
def runClock (d : Nat) (now : Tick) (c : RaceClock) : RaceClock where
  tick := now
  heatLimit := c.heatLimit.map (runTimer d)
  recallWindow := c.recallWindow.map (runTimer d)
  clockStep := c.clockStep.map fun t => { t with elapsed := t.elapsed + d }
  buttonWindow := c.buttonWindow.map (runTimer d)
  resultHold := c.resultHold.map (runTimer d)

/-- The Order Handler's timers after `d` µs more. -/
def runOrders (d : Nat) (o : OrderHandler) : OrderHandler :=
  { o with
    claim := o.claim.map (runTimer d)
    handover := o.handover.map (runTimer d)
    home := o.home.map (runTimer d)
    chain := o.chain.map fun c => { c with gap := runTimer d c.gap }
    slot := runSlot d o.slot }

/-- The module when the tick counter has moved on to `now`, less than 2^32 µs later. Every timer counts on; no expiry
is delivered here, since each expiry is a command of its own (R41, R43). -/
def advanceTo (now : Tick) (s : State) : State :=
  let d := (now - s.clock.tick).toNat
  { s with
    clock := runClock d now s.clock
    deck := { s.deck with phase := runPhase d s.deck.phase }
    board := { s.board with busy := s.board.busy.map (runTimer d) }
    lamps := { s.lamps with sincePhase := s.lamps.sincePhase + d }
    orders := runOrders d s.orders }

/-- The tick of the command being taken. -/
def State.now (s : State) : Tick := s.clock.tick

/-! ### Tally Unit (R169, R170) -/

/-- Event select codes (table 11-1). -/
def tallyCode : TallyEvent → Nat
  | .touchAccepted => 1 | .touchLockout => 2 | .touchWrongEnd => 3 | .touchIdle => 4 | .touchLimit => 5
  | .releaseStray => 6 | .releaseDup => 7 | .pressAccepted => 8 | .pressDup => 9 | .pressStray => 10
  | .lateStamp => 11 | .pollMiss => 12 | .kindMismatch => 13 | .startIgnored => 14 | .boardDiscard => 15
  | .passDiscard => 16 | .badCheck => 17

/-- Does an event with this lane and station count on a counter, the unit running (R169)? -/
def counterMatches (c : TallyCounter) (e : TallyEvent) (lane : Option Lane) (station : Option Byte) : Bool :=
  c.enabled && c.select == tallyCode e
    && (match lane with
        | some l => c.laneMask.getLsbD l
        | none => c.laneMask.getLsbD 10)
    && (match station with
        | some a => a &&& c.stationMask == c.stationValue &&& c.stationMask
        | none => c.stationMask == 0)

/-- Counting one event that matches (R170): a count of 16,777,215 becomes 0 and sets the overflow flag. -/
def raiseCount (c : TallyCounter) : TallyCounter :=
  { c with count := c.count + 1, overflow := c.overflow || c.count == BitVec.allOnes 24 }

/-- Does counting one event that matches overflow the counter? -/
def wouldOverflow (c : TallyCounter) : Bool := c.count == BitVec.allOnes 24

/-- The Tally Unit after an event: it counts on every counter that matches it as the unit stands, and an overflow
freezes the unit for later events when freeze-on-overflow is set (R169, R170). -/
def tallyAfter (t : TallyUnit) (e : TallyEvent) (lane : Option Lane) (station : Option Byte) : TallyUnit :=
  if t.frozen then t
  else
    { t with
      counters := mapAll t.counters fun c => if counterMatches c e lane station then raiseCount c else c
      frozen := t.freezeOnOverflow
        && t.counters.toList.any fun c => counterMatches c e lane station && wouldOverflow c }

/-- Does the event overflow a counter whose overflow-notice enable is set (R170)? -/
def tallyAlarms (t : TallyUnit) (e : TallyEvent) (lane : Option Lane) (station : Option Byte) : Bool :=
  !t.frozen
    && t.counters.toList.any fun c => counterMatches c e lane station && wouldOverflow c && c.overflowNotice

/-! ### Board queue insertion (R133, R134) -/

/-- The lane a board telegram's payload names first, where it is a lane. -/
def payloadLane (t : Telegram) : Option Lane :=
  match t.payload with
  | b :: _ => if h : b.toNat < 10 then some ⟨b.toNat, h⟩ else none
  | [] => none

/-- Is this the SPLIT of the lane that the first payload byte `lane` names? -/
def isSplitOf (lane : Option Byte) (t : Telegram) : Bool := t.kind == kindSplit && t.payload.head? == lane

/-- Coalescing: a SPLIT offered for a lane removes any SPLIT queued for that lane (R133). -/
def coalesce (t : Telegram) (queue : List Telegram) : List Telegram :=
  if t.kind == kindSplit then queue.filter fun q => !isSplitOf t.payload.head? q else queue

/-- The queue without its oldest telegram of a kind, when it holds one. -/
def removeOldest (kind : Byte) (queue : List Telegram) : Option (List Telegram) :=
  if queue.any (fun q => q.kind == kind) then some (queue.eraseP fun q => q.kind == kind) else none

/-- Places taken in the board queue: the telegrams queued and a reservation (R134). -/
def placesTaken (reserved : Bool) (queue : List Telegram) : Nat :=
  queue.length + if reserved then 1 else 0

/-- A queue with room for one more: as it is when it is not full, else less its oldest CLOCK, else less its oldest
SPLIT; none when it is full and holds neither (R134). -/
def makeRoom (reserved : Bool) (queue : List Telegram) : Option (List Telegram) :=
  if placesTaken reserved queue < Config.boardPlaces then some queue
  else
    match removeOldest kindClock queue with
    | some less => some less
    | none => removeOldest kindSplit queue

/-- The board queue after a telegram is offered, or none when the telegram is discarded (R133, R134). -/
def insertBoard (reserved : Bool) (t : Telegram) (queue : List Telegram) : Option (List Telegram) :=
  (makeRoom reserved (coalesce t queue)).map fun room => room ++ [t]

/-- Lane of the BOARD_DISCARD event of a telegram (R135). -/
def discardLane (t : Telegram) : Option Lane :=
  if t.kind == kindSplit || t.kind == kindFinish || t.kind == kindPlace || t.kind == kindResult then payloadLane t
  else none

/-- Station of the BOARD_DISCARD event of a telegram (R135). -/
def discardStation (t : Telegram) : Option Byte :=
  if t.kind == kindEvent then t.payload.head?
  else if t.kind == kindResponse then some t.dest
  else none

/-! ### Notices and offering to the board queue (R135, R136, R165) -/

/-- Index of a notice kind in the notices table: its number in table 1-11 less one. -/
def noticeIndex : NoticeKind → Fin 12
  | .nodeLost => 0 | .nodeBack => 1 | .earlyRelease => 2 | .earlyTakeoff => 3 | .discrepant => 4
  | .heatChange => 5 | .mailbox => 6 | .tallyOverflow => 7 | .overrun => 8 | .configInvalid => 9
  | .queryDone => 10 | .chainAbort => 11

/-- The record of a notice kind. -/
def State.notice (s : State) (k : NoticeKind) : Notice := s.orders.notices[noticeIndex k]

/-- Set or clear the status of a notice kind. -/
def setStatus (k : NoticeKind) (status : Bool) (s : State) : State :=
  s.setOrders { s.orders with
    notices := modifyAt s.orders.notices (noticeIndex k) fun n => { n with status := status } }

/-- A telegram of the module's own on the board line (R3, R130). -/
def boardTelegramOf (s : State) (kind : Byte) (payload : List Byte) : Telegram :=
  ⟨everyStation, s.settings.station, kind, payload⟩

/-- The NOTICE telegram of a kind (tables 1-10, 1-11). -/
def noticeTelegram (s : State) (k : NoticeKind) : Telegram :=
  boardTelegramOf s kindNotice [byteOf ((noticeIndex k).val + 1)]

/-- Count a tally event, raising TALLY_OVERFLOW by `raise` (R169, R170). -/
def countWith (raise : NoticeKind → State → State) (e : TallyEvent) (lane : Option Lane) (station : Option Byte)
    (s : State) : State :=
  let counted := s.setTally (tallyAfter s.tally e lane station)
  if tallyAlarms s.tally e lane station then raise .tallyOverflow counted else counted

/-- Offer a telegram to the board queue; a discard is counted and raises OVERRUN by `raise` (R134, R135). -/
def offerWith (raise : NoticeKind → State → State) (t : Telegram) (s : State) : State :=
  match insertBoard s.board.reserved t s.board.queue with
  | some queue => s.setBoard { s.board with queue := queue }
  | none => raise .overrun (countWith raise .boardDiscard (discardLane t) (discardStation t) s)

/-- Raise a notice: nothing when its status is set; otherwise the status is set and, when the kind is enabled toward
BOARD, its NOTICE telegram is offered by `offer` (R165). -/
def raiseWith (offer : Telegram → State → State) (k : NoticeKind) (s : State) : State :=
  if (s.notice k).status then s
  else
    let risen := setStatus k true s
    if (s.notice k).enabled && (s.notice k).direction == .board then offer (noticeTelegram s k) risen else risen

/-- Offering at nesting depth `n`. A discard can raise OVERRUN and, by its BOARD_DISCARD count, TALLY_OVERFLOW, and
each offers a NOTICE in its turn (R136). A status rises once, so two levels are the deepest there are: at level 0 both
statuses stand set already. -/
def offerAt : Nat → Telegram → State → State
  | 0, t, s => offerWith (fun k s => setStatus k true s) t s
  | n + 1, t, s => offerWith (raiseWith (offerAt n)) t s

/-- Offer a telegram to the board queue (R134 to R136). -/
def offer (t : Telegram) (s : State) : State := offerAt 2 t s

/-- Raise a notice (R165). -/
def raise (k : NoticeKind) (s : State) : State := raiseWith offer k s

/-- Count a tally event (R169, R170). -/
def count (e : TallyEvent) (lane : Option Lane) (station : Option Byte) (s : State) : State :=
  countWith raise e lane station s

/-! ### Deck command queue (R19, R20) -/

/-- Is this entry a queued LAMP for the station? -/
def isLampFor (station : Byte) (e : DeckEntry) : Bool :=
  (match e.origin with
   | .lamp _ => true
   | _ => false) && e.telegram.dest == station

/-- Is this entry a queued LAMP of the lane? -/
def isLampOf (lane : Lane) (e : DeckEntry) : Bool := e.origin == .lamp lane

/-- The deck command queue after a telegram of a class arrives, or none when it is discarded (R19, R20). A second RESPONSE
to the panel is not admitted: the queue holds at most one, and the queued one leaves by a command gap or a flush alone
(notes/assumptions/22.md). -/
def insertDeck (e : DeckEntry) (queue : List DeckEntry) : Option (List DeckEntry) :=
  match e.origin with
  | .lamp _ =>
    if queue.any (isLampFor e.telegram.dest) then
      some (queue.map fun q => if isLampFor e.telegram.dest q then e else q)
    else some (queue ++ [e])
  | .query => some (queue ++ [e])
  | .response => some (if queue.any fun q => q.origin == .response then queue else queue ++ [e])
  | .passThrough =>
    if (queue.filter fun q => q.origin == .passThrough).length < Config.passThroughBound then some (queue ++ [e])
    else none

/-- Offer a telegram to the deck command queue; a pass-through telegram over the bound is discarded and counted as
PASS_DISCARD with its destination as station (R19). -/
def offerDeck (e : DeckEntry) (s : State) : State :=
  match insertDeck e s.deck.queue with
  | some queue => s.setDeck { s.deck with queue := queue }
  | none => count .passDiscard none (some e.telegram.dest) s

/-- Does the queue hold a RESPONSE to a panel order (R17)? -/
def responseQueued (s : State) : Bool := s.deck.queue.any fun e => e.origin == .response

/-! ### Node table (chapter 2) -/

/-- Indices of the node table in table order. -/
def nodeIndices : List (Fin 64) := List.finRange 64

/-- Does the entry at an index hold the station? -/
def holdsStation (nodes : NodeTable) (station : Byte) (i : Fin 64) : Bool :=
  match nodes[i] with
  | some n => n.entry.station == station
  | none => false

/-- The index of the loaded entry that holds a station (R29). -/
def findNode (nodes : NodeTable) (station : Byte) : Option (Fin 64) := nodeIndices.find? (holdsStation nodes station)

/-- The first loaded entry in table order with a loaded kind (R27). -/
def firstOfKind (nodes : NodeTable) (kind : NodeKind) : Option (Fin 64) :=
  nodeIndices.find? fun i =>
    match nodes[i] with
    | some n => n.entry.kind == kind
    | none => false

/-- The effective kind of a loaded entry: a STARTER or PANEL entry other than the first is OTHER (R27). -/
def effectiveKind (nodes : NodeTable) (i : Fin 64) (n : Node) : NodeKind :=
  match n.entry.kind with
  | .starter => if firstOfKind nodes .starter = some i then .starter else .other
  | .panel => if firstOfKind nodes .panel = some i then .panel else .other
  | k => k

/-- Is this station the panel (R9, R27)? -/
def isPanel (nodes : NodeTable) (station : Byte) : Bool :=
  match firstOfKind nodes .panel with
  | some i => holdsStation nodes station i
  | none => false

/-- The lane of the entry that holds a station, or none. -/
def stationLane (nodes : NodeTable) (station : Byte) : Option Lane :=
  match findNode nodes station with
  | some i => nodes[i].bind fun n => n.entry.lane
  | none => none

/-- The presence of the entry that holds a station. -/
def stationPresence (nodes : NodeTable) (station : Byte) : Option Presence :=
  match findNode nodes station with
  | some i => nodes[i].map fun n => n.run.presence
  | none => none

/-- Is this entry loaded and ABSENT? -/
def isAbsent (entry : Option Node) : Bool :=
  match entry with
  | some n => n.run.presence == .absent
  | none => false

/-- The NODE_LOST condition: at least one loaded entry is ABSENT (R11). -/
def nodeLost (nodes : NodeTable) : Bool := nodes.toList.any isAbsent

/-- Replace the node table, reporting a change of the NODE_LOST condition: becoming true raises the notice, becoming
false clears its status (R11, R165). -/
def setNodesReporting (nodes : NodeTable) (s : State) : State :=
  let s' := s.setNodes nodes
  if nodeLost s.nodes == nodeLost nodes then s'
  else if nodeLost nodes then raise .nodeLost s'
  else setStatus .nodeLost false s'

/-- Change the runtime fields of the loaded entry that holds a station; no entry, no change (R29). -/
def changeRuntime (nodes : NodeTable) (station : Byte) (f : NodeRuntime → NodeRuntime) : NodeTable :=
  match findNode nodes station with
  | some i => modifyAt nodes i (Option.map fun n => { n with run := f n.run })
  | none => nodes

/-- The node table with every boost mark clear (R18). -/
def withoutBoosts (nodes : NodeTable) : NodeTable :=
  mapAll nodes (Option.map fun n => { n with run := { n.run with boost := false } })

/-- Clear every boost mark (R18). -/
def clearBoosts (s : State) : State := s.setNodes (withoutBoosts s.nodes)

/-! ### Banks (chapter 4) -/

/-- A bank by name. -/
def bankOf (b : BankStore) : BankName → Bank
  | .a => b.a
  | .b => b.b

/-- The other bank. -/
def otherBank : BankName → BankName
  | .a => .b
  | .b => .a

/-- The active bank (R57). -/
def State.activeBank (s : State) : Bank := bankOf s.banks s.banks.active

/-- The standby bank (R57). -/
def State.standbyBank (s : State) : Bank := bankOf s.banks (otherBank s.banks.active)

/-- What an EMPTY bank gives its readers: event and heat number 0 (R73), and no limit is read of it (R64). -/
def emptyHead : HeatHead := ⟨0, 0, 0, 0, 0, 0, 0, 0, 0, 0, 0, 0⟩

/-- The head of the active bank. -/
def State.head (s : State) : HeatHead := s.activeBank.head.getD emptyHead

/-- The finish end of a number of lengths: TURN when odd, START when even (R95). -/
def finishEnd (lengths : Nat) : PoolEnd := if lengths % 2 = 1 then .turn else .start

/-- Limits in µs (R50). -/
def msToMicros (n : Nat) : Nat := 1000 * n

/-- Limits in µs (R50). -/
def secToMicros (n : Nat) : Nat := 1000000 * n

/-- Does the boost of a lane mark this entry: a PAD or BUTTON of the lane at the finish end (R18)? -/
def boostMarks (lane : Lane) (finish : PoolEnd) (e : NodeEntry) : Bool :=
  (e.kind == .pad || e.kind == .button) && e.lane == some lane && e.poolEnd == some finish

/-- Set the boost marks of a lane's finish-end pads and buttons (R18). -/
def boostLane (lane : Lane) (s : State) : State :=
  s.setNodes (mapAll s.nodes (Option.map fun n =>
    if boostMarks lane (finishEnd s.head.lengths) n.entry then { n with run := { n.run with boost := true } } else n))

/-! ### Lane records -/

/-- Replace one lane record. -/
def setLane (lane : Lane) (r : LaneRecord) (s : State) : State := s.setLanes (s.lanes.set lane r)

/-- The race time of an event tick against the start tick, when there is one (R49). -/
def State.raceTime (s : State) (tick : Tick) : Option Int := s.heat.startTick.map fun start => tickDiff tick start

/-! ### Configuration memory (R174) -/

/-- The byte at an address of the configuration memory. -/
def Memory.read (m : Memory) (address : Nat) : Byte :=
  match m.cells.find? (fun c => c.1 == address) with
  | some c => c.2
  | none => unwrittenByte

/-- The cells with one address written; the byte an unlisted address reads removes the entry. -/
def writeCell (address : Nat) (b : Byte) : List Host.Cell → List Host.Cell
  | [] => if b = unwrittenByte then [] else [(address, b)]
  | c :: rest =>
    if c.1 < address then c :: writeCell address b rest
    else
      let behind := if c.1 = address then rest else c :: rest
      if b = unwrittenByte then behind else (address, b) :: behind

/-- The memory with one byte written. -/
def Memory.write (m : Memory) (address : Nat) (b : Byte) : Memory := ⟨writeCell address b m.cells⟩

/-- The memory after a sequence of byte writes. -/
def Memory.writeAll (m : Memory) (writes : List Host.Cell) : Memory :=
  writes.foldl (fun m w => m.write w.1 w.2) m

/-- The `n` bytes from `address` on, for cells whose addresses start there or above and rise. -/
def readRun : Nat → Nat → List Host.Cell → List Byte
  | 0, _, _ => []
  | n + 1, address, [] => unwrittenByte :: readRun n (address + 1) []
  | n + 1, address, c :: rest =>
    if c.1 = address then c.2 :: readRun n (address + 1) rest
    else unwrittenByte :: readRun n (address + 1) (c :: rest)

/-- The first `n` bytes of the memory. -/
def Memory.bytes (m : Memory) (n : Nat) : List Byte := readRun n 0 m.cells

end Sys2Proof.Machine
end

