-- ==== Sys2Proof/Machine/Flags.lean ====
section
/-! DEFINITION. Displayed and reported times (section 3.5), the codes of states and verdicts, and the flag bytes of the
payloads (chapter 1 and table 10-3). -/

namespace Sys2Proof.Machine

/-! ### Displayed forms (R51 to R53) -/

/-- Thousandths of a race time, truncated (R51). -/
def thousandths (t : Int) : Int := t / 1000

/-- Hundredths of a race time, truncated: the official form (R51). -/
def hundredths (t : Int) : Int := t / 10000

/-- A signed time in thousandths, truncated toward zero and clamped to `low`..`high` (R52, R53). -/
def reported (low high t : Int) : Int := max low (min high (t.tdiv 1000))

/-- The reported reaction (R52); 0 when absent. -/
def reportedReaction (r : Option Int) : Int :=
  match r with
  | some t => reported (-999) 9999 t
  | none => 0

/-- The reported exchange difference (R53); 0 when absent. -/
def reportedDifference (d : Option Int) : Int :=
  match d with
  | some t => reported (-9999) 9999 t
  | none => 0

/-- A time field in a displayed form, 0 when the time is absent. -/
def shownTime (form : Int → Int) (t : Option Int) : List Byte :=
  match t with
  | some t => int32 (form t)
  | none => int32 0

/-! ### Codes -/

/-- Heat state codes (table 5-1). -/
def heatCode : HeatState → Nat
  | .idle => 0 | .armed => 1 | .marks => 2 | .running => 3 | .closing => 4 | .closed => 5

/-- Lane state codes (table 10-3). -/
def laneStateCode : LaneState → Nat
  | .vacant => 0 | .waiting => 1 | .swimming => 2 | .finished => 3 | .noTime => 4

/-- Source codes (table 1-8). -/
def sourceCode : Source → Nat
  | .none => 0 | .pad => 1 | .backup => 2

/-- Verdict codes (table 1-8). -/
def verdictCode : Verdict → Nat
  | .good => 1 | .early => 2 | .notJudged => 3

/-- Presence codes (table 10-4). -/
def presenceCode : Presence → Nat
  | .unknown => 0 | .present => 1 | .absent => 2

/-- Node kind codes (table 10-4). -/
def nodeKindCode : NodeKind → Nat
  | .starter => 0 | .block => 1 | .pad => 2 | .button => 3 | .panel => 4 | .other => 5

/-- The node kind of a code (table 10-4). -/
def nodeKindOf : Nat → Option NodeKind
  | 0 => some .starter | 1 => some .block | 2 => some .pad | 3 => some .button | 4 => some .panel | 5 => some .other
  | _ => none

/-- Filter action codes (table 10-4). -/
def actionCode : FilterAction → Nat
  | .consume => 0 | .copy => 1 | .forward => 2 | .drop => 3

/-- The filter action of a code (table 10-4). -/
def actionOf : Nat → Option FilterAction
  | 0 => some .consume | 1 => some .copy | 2 => some .forward | 3 => some .drop | _ => none

/-- Force codes (table 10-4). -/
def forceCode : Force → Nat
  | .none => 0 | .on => 1 | .off => 2

/-- The force of a code (table 10-4). -/
def forceOf : Nat → Option Force
  | 0 => some .none | 1 => some .on | 2 => some .off | _ => Option.none

/-- Table codes (table 10-4). -/
def tableNumber : TableCode → Nat
  | .nodes => 1 | .filters => 2 | .bank => 3 | .patterns => 4 | .notices => 5 | .settings => 6

/-- The table of a code (table 10-4). -/
def tableOf : Nat → Option TableCode
  | 1 => some .nodes | 2 => some .filters | 3 => some .bank | 4 => some .patterns | 5 => some .notices
  | 6 => some .settings | _ => none

/-- Number of entries of a table (R157). -/
def tableSize : TableCode → Nat
  | .nodes => 64 | .filters => 16 | .bank => 11 | .patterns => 3 | .notices => 12 | .settings => 7

/-- Codes of the sides (table 10-3). -/
def sideCode : Side → Nat
  | .console => 0 | .panel => 1

/-- Codes of the channel modes (table 10-3). -/
def modeCode : ChannelMode → Nat
  | .park => 0 | .home => 1

/-- Codes of the query slot's states (table 10-3). -/
def slotCode : QuerySlot → Nat
  | .free => 0 | .waiting _ _ => 1 | .held _ _ _ => 2

/-! ### Flag bytes -/

/-- Flags of a SPLIT (table 1-6). -/
def splitFlags (time : Option Int) (late : Bool) : Byte := flagByte [time.isSome, late]

/-- Flags of a FINISH (table 1-7). -/
def finishFlags (r : LaneRecord) : Byte := flagByte [r.reaction.isSome, r.early, r.late, r.dq]

/-- Flags of a RESULT (table 1-8). -/
def resultFlags (r : LaneRecord) : Byte :=
  flagByte [r.reaction.isSome, r.early, r.late, r.dq, r.discrepant, r.official.isSome]

/-- Flags of a LANE head page (table 10-3). -/
def laneFlags (r : LaneRecord) : Byte :=
  flagByte [r.reaction.isSome, r.early, r.late, r.dq, r.discrepant, r.padFinish.isSome, r.official.isSome,
    r.pendingRelease.isSome || r.awaitingRelease.isSome]

/-- Bank flags of STAT (table 10-3). -/
def bankFlags (s : State) : Byte :=
  flagByte [s.banks.active == .b, s.banks.pendingSwap, s.banks.a.head.isNone, s.banks.b.head.isNone,
    s.heat.startTick.isSome]

/-- All twelve notice statuses: bit n - 1 for kind n (R151). -/
def noticeStatuses (s : State) : List Byte :=
  nat16 (flagNumber (s.orders.notices.toList.map fun n => n.status))

/-- The notice summary of a POLL to the panel: the kinds whose status and enable are set and whose direction is PANEL,
as they stand (section 1.1, R165). -/
def noticeSummary (s : State) : List Byte :=
  nat16 (flagNumber (s.orders.notices.toList.map fun n => n.status && n.enabled && n.direction == .panel))

end Sys2Proof.Machine
end

