-- ==== Sys2Proof/Machine/Lamps.lean ====
section
/-! DEFINITION. The Lamp Generator (chapter 9): pattern phases, lamp stations, the evaluation of a lane, the hand-off and
the clearing of assignments. -/

namespace Sys2Proof.Machine

/-- Is a set lit at a phase under force NONE (R144)? -/
def litAt (set : PatternSet) (phase : Nat) : Bool := set.onEdge ≤ phase && phase < set.offEdge

/-- Is a pattern lit at its current phase and force (R144)? -/
def patternLit (p : Pattern) : Bool :=
  match p.force with
  | .none => litAt p.live p.phase
  | .on => true
  | .off => false

/-- Is the next step of a pattern its period end (R143)? -/
def atPeriodEnd (p : Pattern) : Bool := p.live.period ≤ p.phase + 1

/-- A pattern after one phase step: the phase increments, or returns to 0 at the period end, where a staged set becomes
live (R143). -/
def stepPattern (p : Pattern) : Pattern :=
  if atPeriodEnd p then { p with live := p.staged.getD p.live, staged := none, phase := 0 }
  else { p with phase := p.phase + 1 }

/-- Are the lanes of a pattern evaluated at its next step: at an edge, where the lit state under force NONE changes,
or at the period end (R144)? -/
def stepEvaluates (p : Pattern) : Bool :=
  atPeriodEnd p || litAt (stepPattern p).live (stepPattern p).phase != litAt p.live p.phase

/-- Is this entry the PAD of a lane at an end? -/
def isPadOf (lane : Lane) (finish : PoolEnd) (entry : Option Node) : Bool :=
  match entry with
  | some n => n.entry.kind == .pad && n.entry.lane == some lane && n.entry.poolEnd == some finish
  | none => false

/-- The lamp station of a lane: the first PAD in table order at the lane's finish end; none when the active bank is
EMPTY or no such entry is loaded (R145). -/
def lampStation (s : State) (lane : Lane) : Option Byte :=
  match s.activeBank.head with
  | none => none
  | some head =>
    match nodeIndices.find? fun i => isPadOf lane (finishEnd head.lengths) s.nodes[i] with
    | some i => s.nodes[i].map fun n => n.entry.station
    | none => none

/-- The LAMP telegram of a state (table 1-2). -/
def lampTelegram (s : State) (station : Byte) (lit : Bool) : Telegram :=
  ⟨station, s.settings.station, kindLamp, [markByte lit]⟩

/-- Replace one lamp record. -/
def setLamp (lane : Lane) (r : LampRecord) (s : State) : State :=
  s.setLamps { s.lamps with records := s.lamps.records.set lane r }

/-- Offer a LAMP of a lane to a station; produced state and recorded station are set from it (R145). -/
def produceLamp (lane : Lane) (station : Byte) (lit : Bool) (s : State) : State :=
  offerDeck ⟨.lamp lane, lampTelegram s station lit⟩
    (setLamp lane { s.lamps.records[lane] with produced := lit, recorded := some station } s)

/-- Darken the lamp a lane last lit, at its recorded station, when its produced state is LIT (R146 step 1, R148). -/
def darkenLamp (lane : Lane) (s : State) : State :=
  let r := s.lamps.records[lane]
  if r.produced then
    match r.recorded with
    | some station => produceLamp lane station false s
    | none => setLamp lane { r with produced := false } s
  else s

/-- The state a lane wants: DARK with no assignment, else the state of its pattern (R146). -/
def wantedLit (s : State) (lane : Lane) : Bool :=
  match s.lamps.records[lane].assignment with
  | some p => patternLit s.lamps.patterns[p]
  | none => false

/-- Is a LAMP of the lane for another station still in the deck command queue (R146)? -/
def lampHeldBack (s : State) (lane : Lane) (station : Byte) : Bool :=
  s.deck.queue.any fun e => isLampOf lane e && e.telegram.dest != station

/-- Step 1 of an evaluation: a lit lamp whose lane has another lamp station now is darkened (R146). -/
def leaveOldLamp (lane : Lane) (s : State) : State :=
  if lampStation s lane = s.lamps.records[lane].recorded then s else darkenLamp lane s

/-- Step 2 of an evaluation: a changed wanted state is offered to the lamp station (R146). -/
def followPattern (lane : Lane) (s : State) : State :=
  match lampStation s lane with
  | none => s
  | some station =>
    if wantedLit s lane != s.lamps.records[lane].produced && !lampHeldBack s lane station then
      produceLamp lane station (wantedLit s lane) s
    else s

/-- The evaluation of a lane (R146). -/
def evaluateLane (lane : Lane) (s : State) : State := followPattern lane (leaveOldLamp lane s)

/-- Evaluate, in lane order, each lane assigned to a pattern that `due` names (R144, R146). -/
def evaluateAssigned (due : Fin 3 → Bool) (s : State) : State :=
  allLanes.foldl (fun (s : State) (lane : Lane) =>
    match s.lamps.records[lane].assignment with
    | some p => if due p then evaluateLane lane s else s
    | none => s) s

/-- The assignment a lane is handed: its place when that is 1, 2 or 3 (R127). -/
def handedPlace (r : LaneRecord) : Option (Fin 3) :=
  match r.place with
  | some 1 => some 0
  | some 2 => some 1
  | some 3 => some 2
  | _ => none

/-- The hand-off of the places: each lane whose entry differs takes it and is evaluated, in lane order (R147). -/
def handOffLamps (s : State) : State :=
  allLanes.foldl (fun (s : State) (lane : Lane) =>
    let r := s.lamps.records[lane]
    let place := handedPlace s.lanes[lane]
    if r.assignment = place then s else evaluateLane lane (setLamp lane { r with assignment := place } s)) s

/-- Clearing of the lamp assignments: every lane is assigned none, and each lit lamp is darkened in lane order
(R148). -/
def clearLamps (s : State) : State :=
  allLanes.foldl (fun (s : State) (lane : Lane) => darkenLamp lane s)
    (s.setLamps { s.lamps with records := mapAll s.lamps.records fun r => { r with assignment := none } })

/-- The flush of the deck command queue by TIMING RESET, and the clearing that follows it (R21, R148). A lane whose last
LAMP was removed unsent, by the flush or before it by another lane's LAMP for the same station (R20), falls back to its
line state first; for a lane whose last LAMP was sent, the produced state is the line state already. The LAMP off goes to
the recorded station (notes/assumptions/27.md). -/
def flushDeck (s : State) : State :=
  let flushed := (s.setDeck { s.deck with queue := [], queryOnLine := false }).setLamps
    { s.lamps with records := mapAll s.lamps.records fun r => { r with produced := r.lineState } }
  clearLamps flushed

/-- A LAMP taken onto the deck line sets its lane's line state (R145). -/
def noteLampSent (e : DeckEntry) (s : State) : State :=
  match e.origin with
  | .lamp lane => setLamp lane { s.lamps.records[lane] with lineState := e.telegram.payload == [markByte true] } s
  | _ => s

end Sys2Proof.Machine
end

