-- ==== Sys2Proof/Machine/Results.lean ====
section
/-! DEFINITION. The Result Unit (chapter 7): backup fusion, the placing rule, the FINISH, PLACE and RESULT telegrams, the
close work and the result revision. -/

namespace Sys2Proof.Machine

/-- The middle one of three times. -/
def median (a b c : Int) : Int := max (min a b) (min (max a b) c)

/-- The backup time fused from a lane's samples (R54). A record holds at most three samples (R111). -/
def backupTime : List Sample → Option Int
  | [] => none
  | [a] => some a.time
  | [a, b] => some ((a.time + b.time) / 2)
  | a :: b :: c :: _ => some (median a.time b.time c.time)

/-- Is the record of an occupied lane? -/
def occupied (r : LaneRecord) : Bool := r.state != .vacant

/-- The lane is discrepant: it has a pad finish time and a backup time more than `limit` µs apart (R55). -/
def isDiscrepant (limit : Nat) (r : LaneRecord) : Bool :=
  match r.padFinish, backupTime r.samples with
  | some pad, some backup => limit < (pad - backup).natAbs
  | _, _ => false

/-- The time a lane is placed on, when it takes part (table 7-1). -/
def placingTime (heat : HeatState) (r : LaneRecord) : Option Int :=
  if r.dq then none
  else if heat = .closed then r.official
  else if r.state = .finished then r.padFinish
  else none

/-- The lanes that take part in a placing, with their times, in lane order. -/
def participants (s : State) : List (Lane × Int) :=
  allLanes.filterMap fun lane => (placingTime s.heat.state s.lanes[lane]).map fun t => (lane, t)

/-- The place of a time: one more than the number of taking part lanes with strictly smaller hundredths (R114). -/
def placeAmong (field : List (Lane × Int)) (t : Int) : Nat :=
  1 + (field.filter fun p => decide (hundredths p.2 < hundredths t)).length

/-- Order of the finish order list: hundredths, then the full time, then the lane number (R115). -/
def standsBefore (p q : Lane × Int) : Bool :=
  hundredths p.2 < hundredths q.2 ||
    (hundredths p.2 == hundredths q.2 && (p.2 < q.2 || (p.2 == q.2 && p.1 < q.1)))

/-- Insert a lane into a finish order list. -/
def insertFinish (p : Lane × Int) : List (Lane × Int) → List (Lane × Int)
  | [] => [p]
  | q :: rest => if standsBefore p q then p :: q :: rest else q :: insertFinish p rest

/-- The finish order of the taking part lanes (R115). -/
def finishOrder (field : List (Lane × Int)) : List (Lane × Int) := field.foldr insertFinish []

/-- The placing rule: each taking part lane gets its place, every other lane's place becomes absent, and the finish
order list is rebuilt (R114, R115). -/
def runPlacing (s : State) : State :=
  let field := participants s
  let placed := s.setLanes (mapAll s.lanes fun r =>
    { r with place := (placingTime s.heat.state r).map (placeAmong field) })
  placed.setResults { s.results with order := (finishOrder field).map Prod.fst }

/-- A place as a payload byte: 0 when absent. -/
def placeByte (p : Option Nat) : Byte := byteOf (p.getD 0)

/-- A lane number as a payload byte. -/
def laneByte (lane : Lane) : Byte := byteOf lane.val

/-- The FINISH telegram of a lane (table 1-7, R118). -/
def finishTelegram (s : State) (lane : Lane) : Telegram :=
  let r := s.lanes[lane]
  boardTelegramOf s kindFinish
    ([laneByte lane, placeByte r.place, finishFlags r, 0] ++ be16 r.competitor
      ++ int16 (reportedReaction r.reaction) ++ shownTime thousandths r.padFinish)

/-- The PLACE telegram of a lane (table 1-10, R118). -/
def placeTelegram (s : State) (lane : Lane) : Telegram :=
  let r := s.lanes[lane]
  boardTelegramOf s kindPlace ([laneByte lane, placeByte r.place, 0, 0] ++ shownTime thousandths r.padFinish)

/-- The verdict of an exchange of a lane, 0 when the list has no entry for it (R122). -/
def verdictByte (r : LaneRecord) (number : Nat) : Byte :=
  match r.exchanges.find? fun x => x.number == number with
  | some x => byteOf (verdictCode x.verdict)
  | none => 0

/-- The RESULT telegram of a lane (table 1-8, R122). -/
def resultTelegram (s : State) (lane : Lane) : Telegram :=
  let r := s.lanes[lane]
  boardTelegramOf s kindResult
    ([laneByte lane, placeByte r.place, byteOf (sourceCode r.source), resultFlags r, byteOf s.results.revision,
        verdictByte r 1, verdictByte r 2, verdictByte r 3] ++ be16 r.competitor
      ++ shownTime hundredths r.official ++ int16 (reportedReaction r.reaction))

/-- The lanes whose PLACE telegrams a placing offers, in order: those in the finish order list, in list order, then
those that have left it, in lane order; each other than `finisher`, with a place that differs from the one in
`before` (R116, R117). -/
def movedLanes (before : Vector LaneRecord 10) (finisher : Option Lane) (s : State) : List Lane :=
  let moved (lane : Lane) : Bool := some lane != finisher && s.lanes[lane].place != before[lane].place
  (s.results.order ++ allLanes.filter fun lane => !s.results.order.contains lane).filter moved

/-- Offer a telegram for each of some lanes, formed as it is offered. -/
def offerEach (telegram : State → Lane → Telegram) (lanes : List Lane) (s : State) : State :=
  lanes.foldl (fun (s : State) (lane : Lane) => offer (telegram s lane) s) s

/-- The provisional placing after a finish (R116) or after a change of DQ (R117, no finisher). -/
def placeProvisionally (finisher : Option Lane) (s : State) : State :=
  let placed := runPlacing s
  let announced :=
    match finisher with
    | some lane => offer (finishTelegram placed lane) placed
    | none => placed
  handOffLamps (offerEach placeTelegram (movedLanes s.lanes finisher placed) announced)

/-- Offer a RESULT for every occupied lane, in lane order (R121, R126). -/
def offerResults (s : State) : State :=
  offerEach resultTelegram (allLanes.filter fun lane => occupied s.lanes[lane]) s

/-- The official time and source of a lane at the close (R119). -/
def chooseOfficial (r : LaneRecord) : LaneRecord :=
  match r.padFinish, backupTime r.samples with
  | some pad, _ => { r with official := some pad, source := .pad }
  | none, some backup => { r with official := some backup, source := .backup }
  | none, none => { r with official := none, source := .none }

/-- The close work on one lane: official time, source and discrepancy test (R119, R120). -/
def settleLane (s : State) (lane : Lane) : State :=
  let r := s.lanes[lane]
  if occupied r then
    let chosen := chooseOfficial r
    if isDiscrepant (msToMicros s.head.discrepancy) r then
      raise .discrepant (setLane lane { chosen with discrepant := true } s)
    else setLane lane chosen s
  else s

/-- The Result Unit's close work (R119 to R121). -/
def closeResults (s : State) : State :=
  let placed := runPlacing (allLanes.foldl settleLane s)
  handOffLamps (offerResults (placed.setResults { placed.results with revision := 0 }))

/-- A change to the results of a closed heat: a final placing, the next revision, the RESULT telegrams, and the lamp
hand-off (R124 to R126). -/
def reviseResults (s : State) : State :=
  let placed := runPlacing s
  handOffLamps (offerResults
    (placed.setResults { placed.results with revision := min 255 (placed.results.revision + 1) }))

/-- The Result Unit when the lane records are initialised or made VACANT (R113). -/
def resetResults (s : State) : State := s.setResults ⟨[], 0⟩

end Sys2Proof.Machine
end

