-- ==== Sys2Proof/Machine/Heat.lean ====
section
/-! DEFINITION. The Heat Controller and the Heat Bank Store (chapters 4 and 5): HEAT telegrams, lane initialisation, the
heat timers, the changes of heat state, ARM validation and the swap. -/

namespace Sys2Proof.Machine

/-- The HEAT telegram: the heat state as it stands and the active bank's numbers, 0 and 0 when it is EMPTY (R73). -/
def heatTelegram (s : State) : Telegram :=
  boardTelegramOf s kindHeat ([byteOf (heatCode s.heat.state)] ++ nat16 s.head.event ++ [byteOf s.head.heat])

/-- Offer a HEAT telegram and raise HEAT_CHANGE directly after it (R73). -/
def announceHeat (s : State) : State := raise .heatChange (offer (heatTelegram s) s)

/-- Change the heat state. -/
def setHeatState (h : HeatState) (s : State) : State := s.setHeat { s.heat with state := h }

/-- Discard the start tick (R48). -/
def discardStart (s : State) : State := s.setHeat { s.heat with startTick := none }

/-- Stop all five heat timers; none delivers an expiry (R43, R44). -/
def stopHeatTimers (s : State) : State := s.setClock ⟨s.clock.tick, none, none, none, none, none⟩

/-- Clear the pending-swap flag (R70). -/
def clearPendingSwap (s : State) : State := s.setBanks { s.banks with pendingSwap := false }

/-- The record a lane entry initialises (table 6-1, R93). -/
def initialRecord (e : LaneEntry) : LaneRecord :=
  if e.occupied then { vacantRecord with state := .waiting, competitor := e.competitor } else vacantRecord

/-- Initialise the lane records from the active bank; the Result Unit starts anew (R93, R113). -/
def initialiseLanes (s : State) : State := resetResults (s.setLanes (mapAll s.activeBank.lanes initialRecord))

/-- Make every lane record VACANT; the Result Unit starts anew (R93, R113). -/
def vacateLanes (s : State) : State := resetResults (s.setLanes (Vector.replicate 10 vacantRecord))

/-- A lane record at the START (R94): a WAITING lane swims, and a marks release becomes its reaction. -/
def startRecord (start : Tick) (r : LaneRecord) : LaneRecord :=
  if r.state = .waiting then
    match r.marksRelease with
    | some release =>
      let reaction := tickDiff release.tick start
      { r with
        state := .swimming, reaction := some reaction, marksRelease := none
        early := r.early && decide (reaction < 0), late := r.late || release.late }
    | none => { r with state := .swimming }
  else r

/-- The lanes at the START: every WAITING record swims and, in a heat of one length, is in its final length (R94). -/
def startLanes (start : Tick) (s : State) : State :=
  let swimming := s.setLanes (mapAll s.lanes (startRecord start))
  if s.head.lengths = 1 then
    (allLanes.filter fun lane => s.lanes[lane].state == .waiting).foldl (fun s lane => boostLane lane s) swimming
  else swimming

/-- Start the heat limit, recall window and clock step timers from the start tick (R44, R45, R75 step 4). -/
def startRaceTimers (start : Tick) (s : State) : State :=
  s.setClock { s.clock with
    heatLimit := some (startTimer s.now start (secToMicros s.head.heatLimit))
    recallWindow := some (startTimer s.now start (secToMicros s.head.recallWindow))
    clockStep := some ⟨start, (s.now - start).toNat, 0⟩ }

/-- A START that starts the heat (R75). -/
def startHeat (start : Tick) (s : State) : State :=
  announceHeat (startRaceTimers start (startLanes start (s.setHeat ⟨.running, some start⟩)))

/-- Entry into CLOSING (R83). -/
def enterClosing (s : State) : State :=
  let stopped := s.setClock { s.clock with
    heatLimit := none, recallWindow := none
    buttonWindow := some (startTimer s.now s.now (secToMicros s.head.buttonWindow)) }
  announceHeat (setHeatState .closing stopped)

/-- Is swimming done: every occupied lane FINISHED or DQ (R80)? -/
def swimmingDone (s : State) : Bool :=
  s.lanes.toList.all fun r => r.state == .vacant || r.state == .finished || r.dq

/-- The Heat Controller's test for the end of swimming, made while RUNNING (R80). -/
def testEndOfSwimming (s : State) : State :=
  if s.heat.state = .running ∧ swimmingDone s then enterClosing s else s

/-- A RECALL in MARKS (R77). -/
def recallInMarks (s : State) : State := announceHeat (initialiseLanes (setHeatState .armed s))

/-- A RECALL taken within the window (R78). -/
def recallStart (s : State) : State :=
  let stopped := s.setClock { s.clock with heatLimit := none, recallWindow := none, clockStep := none }
  announceHeat (clearLamps (clearBoosts (initialiseLanes (setHeatState .armed (discardStart stopped)))))

/-- A lane record at the entry into CLOSED: a lane that has not finished becomes NO_TIME, and its open exchange is
settled (R85 step 3, R109). -/
def closeRecord (r : LaneRecord) : LaneRecord :=
  if r.state = .vacant ∨ r.state = .finished then r
  else
    { r with
      state := .noTime
      exchanges := match r.awaitingRelease with
        | some w => r.exchanges ++ [⟨w.number, none, .notJudged⟩]
        | none => r.exchanges
      awaitingRelease := none
      pendingRelease := none }

/-- Start the result hold when a swap is pending (R69). -/
def startResultHold (s : State) : State :=
  if s.banks.pendingSwap then
    s.setClock { s.clock with resultHold := some (startTimer s.now s.now (secToMicros s.head.resultHold)) }
  else s

/-- Entry into CLOSED (R85). -/
def enterClosed (s : State) : State :=
  let stopped := s.setClock { s.clock with clockStep := none }
  let closed := setHeatState .closed stopped
  let settled := closed.setLanes (mapAll closed.lanes closeRecord)
  startResultHold (closeResults (announceHeat (clearBoosts settled)))

/-- The swap (R67). -/
def swapBanks (s : State) : State :=
  let swapped := s.setBanks { s.banks with active := otherBank s.banks.active }
  let initialised := initialiseLanes (discardStart (stopHeatTimers swapped))
  clearLamps (announceHeat (setHeatState .armed (clearBoosts initialised)))

/-- Reasons of an ARM refusal (table 4-4). -/
inductive ArmFault where
  | empty | lengths | legs | indivisible | oddLeg | noLane | shortLimit
deriving DecidableEq, Repr

/-- The code of an ARM refusal reason (table 4-4). -/
def armFaultCode : ArmFault → Nat
  | .empty => 1 | .lengths => 2 | .legs => 3 | .indivisible => 4 | .oddLeg => 5 | .noLane => 6 | .shortLimit => 7

/-- ARM validation: the first failing check of table 4-4, or none (R66). -/
def validateBank (b : Bank) : Option ArmFault :=
  match b.head with
  | none => some .empty
  | some h =>
    if ¬ (1 ≤ h.lengths ∧ h.lengths ≤ 60) then some .lengths
    else if ¬ (h.legs = 1 ∨ h.legs = 2 ∨ h.legs = 4) then some .legs
    else if h.lengths % h.legs ≠ 0 then some .indivisible
    else if 1 < h.legs ∧ h.lengths / h.legs % 2 = 1 then some .oddLeg
    else if ¬ (b.lanes.toList.any fun e => e.occupied) then some .noLane
    else if secToMicros h.heatLimit < h.lengths * msToMicros h.minLength then some .shortLimit
    else none

/-- ABORT in a state other than IDLE (R88). -/
def abortHeat (s : State) : State :=
  let stopped := clearPendingSwap (discardStart (stopHeatTimers s))
  announceHeat (clearLamps (clearBoosts (initialiseLanes (setHeatState .armed stopped))))

/-- CLEAR in ARMED or CLOSED (R89). -/
def clearHeat (s : State) : State :=
  let stopped := clearPendingSwap (discardStart (s.setClock { s.clock with resultHold := none }))
  announceHeat (clearLamps (vacateLanes (setHeatState .idle stopped)))

/-- Heat control at TIMING RESET, before the flushes (R91). -/
def resetHeat (s : State) : State :=
  let stopped := clearPendingSwap (discardStart (stopHeatTimers s))
  clearBoosts (vacateLanes (setHeatState .idle stopped))

/-- A starter item the Heat Controller does not act on (section 5.2). -/
def ignoreStarter (station : Byte) (s : State) : State := count .startIgnored none (some station) s

/-- A MARKS item (R74). -/
def takeMarks (station : Byte) (s : State) : State :=
  if s.heat.state = .armed then announceHeat (setHeatState .marks s) else ignoreStarter station s

/-- A START item (R75, R76). -/
def takeStart (tick : Tick) (station : Byte) (s : State) : State :=
  if s.heat.state = .armed ∨ s.heat.state = .marks then startHeat tick s else ignoreStarter station s

/-- Does a RECALL's race time lie in the recall window, both limits included (R78)? -/
def inRecallWindow (s : State) (tick : Tick) : Bool :=
  match s.raceTime tick with
  | some t => 0 ≤ t && t ≤ (secToMicros s.head.recallWindow : Int)
  | none => false

/-- A RECALL item (R77 to R79). -/
def takeRecall (tick : Tick) (station : Byte) (s : State) : State :=
  match s.heat.state with
  | .marks => recallInMarks s
  | .running => if inRecallWindow s tick then recallStart s else ignoreStarter station s
  | _ => ignoreStarter station s

end Sys2Proof.Machine
end

