-- ==== Sys2Proof/Machine/Judge.lean ====
section
/-! DEFINITION. The Lane Judge (chapter 6): pad touches, block releases, relay exchanges and button presses. -/

namespace Sys2Proof.Machine

/-- The expected end of a length: TURN when odd, START when even (R95). -/
def expectedEnd (length : Nat) : PoolEnd := finishEnd length

/-- Lengths of one leg (section 6.5). -/
def legLength (h : HeatHead) : Nat := h.lengths / h.legs

/-- Is this an exchange length (R106)? -/
def isExchangeLength (h : HeatHead) (n : Nat) : Bool := 1 < h.legs && n % legLength h == 0 && n < h.lengths

/-- Does an exchange remain to a record (R106)? -/
def exchangeRemains (h : HeatHead) (r : LaneRecord) : Bool := r.exchanges.length + 1 < h.legs

/-- The verdict of an exchange difference under a margin in µs (R53, R107). -/
def exchangeVerdict (margin : Nat) (difference : Int) : Verdict :=
  if difference < -(margin : Int) then .early else .good

/-- A record whose awaiting release, if it holds one, is settled as NOT JUDGED (R100, R106). -/
def settleAwaiting (r : LaneRecord) : LaneRecord :=
  match r.awaitingRelease with
  | some w => { r with exchanges := r.exchanges ++ [⟨w.number, none, .notJudged⟩], awaitingRelease := none }
  | none => r

/-- Judge an exchange of a lane from the release's and the touch's event ticks; an EARLY verdict raises EARLY_TAKEOFF
(R107). -/
def judgeExchange (lane : Lane) (number : Nat) (release touch : Tick) (late : Bool) (s : State) : State :=
  let r := s.lanes[lane]
  let difference := tickDiff release touch
  let verdict := exchangeVerdict (msToMicros s.head.exchangeMargin) difference
  let judged := setLane lane
    { r with exchanges := r.exchanges ++ [⟨number, some difference, verdict⟩], late := r.late || late } s
  if verdict = .early then raise .earlyTakeoff judged else judged

/-- The exchange at an exchange length: `touch` is the event tick and late indication of the accepted touch, none for
an inferred split (R106). -/
def handleExchange (lane : Lane) (length : Nat) (touch : Option (Tick × Bool)) (s : State) : State :=
  let number := length / legLength s.head
  let r := settleAwaiting s.lanes[lane]
  match touch with
  | none =>
    setLane lane
      { r with exchanges := r.exchanges ++ [⟨number, none, .notJudged⟩], pendingRelease := none } s
  | some (tick, late) =>
    match r.pendingRelease with
    | some p =>
      judgeExchange lane number p.tick tick (p.late || late) (setLane lane { r with pendingRelease := none } s)
    | none => setLane lane { r with awaitingRelease := some ⟨number, tick⟩ } s

/-- The SPLIT telegram of a length (table 1-6). -/
def splitTelegram (s : State) (lane : Lane) (length : Nat) (time : Option Int) (late : Bool) : Telegram :=
  boardTelegramOf s kindSplit
    ([laneByte lane, byteOf length, splitFlags time late, 0] ++ shownTime thousandths time)

/-- The final-length report of a lane: its finish-end pads and buttons are boosted (R99). -/
def reportFinalLength (lane : Lane) (length : Nat) (s : State) : State :=
  if length + 1 = s.head.lengths then boostLane lane s else s

/-- The lane finishes (R100); the placing and the test for the end of swimming follow (R80, R116). -/
def finishLane (lane : Lane) (time : Int) (s : State) : State :=
  let r := settleAwaiting s.lanes[lane]
  let finished := setLane lane { r with padFinish := some time, state := .finished, pendingRelease := none } s
  testEndOfSwimming (placeProvisionally (some lane) (boostLane lane finished))

/-- A touch accepted as length `n` (R97). -/
def acceptTouch (lane : Lane) (n : Nat) (tick : Tick) (time : Int) (late : Bool) (station : Byte) (s : State) :
    State :=
  let r := s.lanes[lane]
  let recorded := setLane lane
    { r with splits := r.splits ++ [⟨n, some time⟩], lengthCount := n, lastTouch := some time, late := r.late || late } s
  let counted := count .touchAccepted (some lane) (some station) recorded
  let announced := offer (splitTelegram counted lane n (some time) late) counted
  let exchanged :=
    if isExchangeLength announced.head n then handleExchange lane n (some (tick, late)) announced else announced
  if n = exchanged.head.lengths then finishLane lane time exchanged else reportFinalLength lane n exchanged

/-- The missed length `n` of a lane is inferred (R98). -/
def inferLength (lane : Lane) (n : Nat) (s : State) : State :=
  let r := s.lanes[lane]
  let recorded := setLane lane { r with splits := r.splits ++ [⟨n, none⟩], lengthCount := n } s
  let announced := offer (splitTelegram recorded lane n none false) recorded
  let exchanged := if isExchangeLength announced.head n then handleExchange lane n none announced else announced
  reportFinalLength lane n exchanged

/-- What becomes of a touch candidate (table 6-3). -/
inductive TouchVerdict where
  | rejected (why : TallyEvent)
  | accepted (time : Int)
  | inferred (time : Int)
deriving DecidableEq, Repr

/-- The tests of a touch candidate, in order (R96, R98). A record swims only while a start tick is present (R72). -/
def judgeTouch (s : State) (lane : Lane) (poolEnd : PoolEnd) (tick : Tick) : TouchVerdict :=
  let r := s.lanes[lane]
  let h := s.head
  let least : Int := msToMicros h.minLength
  let base : Int := r.lastTouch.getD 0
  match s.raceTime tick with
  | none => .rejected .touchIdle
  | some time =>
    if r.state ≠ .swimming then .rejected .touchIdle
    else if (secToMicros h.heatLimit : Int) < time then .rejected .touchLimit
    else if time < base + least then .rejected .touchLockout
    else if poolEnd = expectedEnd (r.lengthCount + 1) then .accepted time
    else if base + 2 * least ≤ time ∧ r.lengthCount + 2 ≤ h.lengths then .inferred time
    else .rejected .touchWrongEnd

/-- A touch candidate reaches the Lane Judge (R96 to R100). -/
def takeTouch (lane : Lane) (poolEnd : PoolEnd) (tick : Tick) (late : Bool) (station : Byte) (s : State) : State :=
  let n := s.lanes[lane].lengthCount + 1
  match judgeTouch s lane poolEnd tick with
  | .rejected why => count why (some lane) (some station) s
  | .accepted time => acceptTouch lane n tick time late station s
  | .inferred time => acceptTouch lane (n + 1) tick time late station (inferLength lane n s)

/-- A false start: a release in MARKS on a WAITING lane (R103). -/
def takeFalseStart (lane : Lane) (tick : Tick) (late : Bool) (station : Byte) (s : State) : State :=
  let r := s.lanes[lane]
  if r.marksRelease.isSome then count .releaseDup (some lane) (some station) s
  else raise .earlyRelease (setLane lane { r with early := true, marksRelease := some ⟨tick, late⟩ } s)

/-- The first swimmer's reaction (R105). -/
def takeReaction (lane : Lane) (time : Int) (late : Bool) (s : State) : State :=
  let r := s.lanes[lane]
  let taken := setLane lane
    { r with reaction := some time, early := r.early || decide (time < 0), late := r.late || late } s
  if time < 0 then raise .earlyRelease taken else taken

/-- An exchange release (R108). -/
def takeExchangeRelease (lane : Lane) (tick : Tick) (late : Bool) (station : Byte) (s : State) : State :=
  let r := s.lanes[lane]
  match r.awaitingRelease with
  | some w => judgeExchange lane w.number tick w.tick late (setLane lane { r with awaitingRelease := none } s)
  | none =>
    if r.pendingRelease.isSome then count .releaseDup (some lane) (some station) s
    else setLane lane { r with pendingRelease := some ⟨tick, late⟩ } s

/-- A release in RUNNING or CLOSING on a SWIMMING lane (R104). -/
def takeRaceRelease (lane : Lane) (tick : Tick) (time : Int) (late : Bool) (station : Byte) (s : State) : State :=
  let r := s.lanes[lane]
  if r.lengthCount = 0 then
    if r.reaction.isNone then takeReaction lane time late s else count .releaseDup (some lane) (some station) s
  else if 1 < s.head.legs ∧ exchangeRemains s.head r then takeExchangeRelease lane tick late station s
  else count .releaseStray (some lane) (some station) s

/-- A block release reaches the Lane Judge (table 6-4, R102 to R104). -/
def takeRelease (lane : Lane) (tick : Tick) (late : Bool) (station : Byte) (s : State) : State :=
  match s.heat.state with
  | .armed => s
  | .marks =>
    if s.lanes[lane].state = .waiting then takeFalseStart lane tick late station s
    else count .releaseStray (some lane) (some station) s
  | .running | .closing =>
    match s.raceTime tick with
    | some time =>
      if s.lanes[lane].state = .swimming then takeRaceRelease lane tick time late station s
      else count .releaseStray (some lane) (some station) s
    | none => count .releaseStray (some lane) (some station) s
  | .idle | .closed => count .releaseStray (some lane) (some station) s

/-- Are the buttons of a lane open (R110, test 4): the lane has finished, is in its final length, or the loaded button
arming time has passed? -/
def buttonsOpen (h : HeatHead) (r : LaneRecord) (time : Int) : Bool :=
  r.state == .finished || h.lengths ≤ r.lengthCount + 1
    || (h.buttonArming != 0 && (secToMicros h.buttonArming : Int) ≤ time)

/-- What becomes of a press (table 6-7). -/
inductive PressVerdict where
  | rejected (why : TallyEvent)
  | accepted (time : Int)
deriving DecidableEq, Repr

/-- The tests of a press, in order (R110). -/
def judgePress (s : State) (lane : Lane) (poolEnd : PoolEnd) (position : Nat) (tick : Tick) : PressVerdict :=
  let r := s.lanes[lane]
  let h := s.head
  match s.raceTime tick with
  | none => .rejected .pressStray
  | some time =>
    if ¬ ((s.heat.state = .running ∨ s.heat.state = .closing) ∧ (r.state = .swimming ∨ r.state = .finished)) then
      .rejected .pressStray
    else if poolEnd ≠ finishEnd h.lengths then .rejected .pressStray
    else if time < (msToMicros h.minLength : Int) ∨ (secToMicros h.heatLimit : Int) < time then .rejected .pressStray
    else if ¬ buttonsOpen h r time then .rejected .pressStray
    else if r.samples.any fun x => x.position == position then .rejected .pressDup
    else .accepted time

/-- A button press reaches the Lane Judge (R110, R111). -/
def takePress (lane : Lane) (poolEnd : PoolEnd) (position : Nat) (tick : Tick) (late : Bool) (station : Byte)
    (s : State) : State :=
  match judgePress s lane poolEnd position tick with
  | .rejected why => count why (some lane) (some station) s
  | .accepted time =>
    let r := s.lanes[lane]
    count .pressAccepted (some lane) (some station)
      (setLane lane { r with samples := r.samples ++ [⟨position, time⟩], late := r.late || late } s)

end Sys2Proof.Machine
end

