-- ==== Sys2Proof/Machine/Intake.lean ====
section
/-! DEFINITION. The Intake Filter (chapter 2): one REPORT item through lookup, kind check, contact step, filter step, event
tick, EVENT telegram and hand-off. -/

namespace Sys2Proof.Machine

/-- A REPORT item as received (table 1-3). -/
structure ReportItem where
  code : Nat
  age : Nat
  value : Byte
deriving DecidableEq, Repr

/-- The item of four bytes of a REPORT (table 1-3); the spare byte is ignored (R4). -/
def itemOfBytes (b0 b1 b2 : Byte) : ReportItem where
  code := b0.toNat / 16
  age := b0.toNat % 16 * 256 + b1.toNat
  value := b2

/-- The items of a REPORT, in telegram order (R4). -/
def itemsOf : List Byte → List ReportItem
  | b0 :: b1 :: b2 :: _ :: rest => itemOfBytes b0 b1 b2 :: itemsOf rest
  | _ => []

/-- Does an item code belong to an effective kind (table 2-3)? -/
def codeBelongs (kind : NodeKind) (code : ItemCode) : Bool :=
  match kind, code with
  | _, .generic => true
  | .other, _ => true
  | .starter, .marks | .starter, .start | .starter, .recall => true
  | .block, .release => true
  | .pad, .contact => true
  | .button, .press => true
  | _, _ => false

/-- Is a CONTACT value at or above the entry's threshold (R31)? -/
def atThreshold (e : NodeEntry) (value : Byte) : Bool := e.threshold ≤ value.toNat

/-- Is a CONTACT item of a PAD a touch candidate (R31, R32)? -/
def isCandidate (n : Node) (value : Byte) : Bool :=
  atThreshold n.entry value && (n.entry.mode == .level || n.run.contact == .below)

/-- The contact state a CONTACT item leaves, in either mode (R31, R32). -/
def contactAfter (e : NodeEntry) (value : Byte) : ContactState := if atThreshold e value then .above else .below

/-- Does a loaded filter entry match an item (R34)? -/
def filterMatches (f : FilterEntry) (station : Byte) (code : ItemCode) : Bool :=
  station &&& f.stationMask == f.stationValue &&& f.stationMask && f.items.getLsbD (itemNumber code - 1)

/-- The default action of an effective kind and code (table 2-6). -/
def defaultAction (kind : NodeKind) (code : ItemCode) : FilterAction :=
  if code = .generic ∨ kind = .other then .forward else .consume

/-- The action the filter table gives an item: that of the first loaded entry that matches, else the default (R34,
R35). -/
def filterAction (filters : FilterTable) (kind : NodeKind) (station : Byte) (code : ItemCode) : FilterAction :=
  match filters.toList.find? fun f => f.any fun f => filterMatches f station code with
  | some (some f) => f.action
  | _ => defaultAction kind code

/-- The action taken: an item with no judge, GENERIC or of effective kind OTHER, has CONSUME taken as DROP and COPY as
FORWARD (R37). -/
def effectiveAction (kind : NodeKind) (code : ItemCode) (action : FilterAction) : FilterAction :=
  if code = .generic ∨ kind = .other then
    match action with
    | .consume => .drop
    | .copy => .forward
    | a => a
  else action

/-- The event tick of an item: its arrival tick, less the latency compensation, less ten times the age, modulo 2^32
(R46). -/
def eventTick (arrival : Tick) (latency age : Nat) : Tick :=
  arrival - BitVec.ofNat 32 latency - BitVec.ofNat 32 (10 * age)

/-- The EVENT telegram of an item (R39, table 1-10). -/
def eventTelegram (s : State) (station : Byte) (code : ItemCode) (item : ReportItem) (arrival event : Tick) : Telegram :=
  boardTelegramOf s kindEvent
    ([station, byteOf (itemNumber code), item.value, 0] ++ nat16 item.age ++ be32 arrival ++ be32 event)

/-- Hand an item to the judge of its effective kind (table 2-8). -/
def handToJudge (e : NodeEntry) (kind : NodeKind) (code : ItemCode) (event : Tick) (late : Bool) (s : State) : State :=
  match kind, code, e.lane, e.poolEnd with
  | .starter, .marks, _, _ => takeMarks e.station s
  | .starter, .start, _, _ => takeStart event e.station s
  | .starter, .recall, _, _ => takeRecall event e.station s
  | .block, .release, some lane, _ => takeRelease lane event late e.station s
  | .pad, .contact, some lane, some poolEnd => takeTouch lane poolEnd event late e.station s
  | .button, .press, some lane, some poolEnd => takePress lane poolEnd (e.position.getD 0) event late e.station s
  | _, _, _, _ => s

/-- An item at the filter step and after it (R34 to R40). -/
def filterItem (e : NodeEntry) (kind : NodeKind) (code : ItemCode) (item : ReportItem) (arrival : Tick) (s : State) :
    State :=
  let event := eventTick arrival e.latency item.age
  let late := item.age == Config.saturatedAge
  let stamped (s : State) : State := if late then count .lateStamp e.lane (some e.station) s else s
  let announced (s : State) : State := offer (eventTelegram s e.station code item arrival event) s
  match effectiveAction kind code (filterAction s.filters kind e.station code) with
  | .consume => handToJudge e kind code event late (stamped s)
  | .copy => handToJudge e kind code event late (announced (stamped s))
  | .forward => announced (stamped s)
  | .drop => s

/-- Set the contact state of the entry at an index (R31, R32). -/
def setContact (i : Fin 64) (c : ContactState) (s : State) : State :=
  s.setNodes (modifyAt s.nodes i (Option.map fun n => { n with run := { n.run with contact := c } }))

/-- An item of a known entry: kind check, contact step, filter step (R30 to R33). -/
def takeEntryItem (i : Fin 64) (n : Node) (item : ReportItem) (code : ItemCode) (arrival : Tick) (s : State) : State :=
  let kind := effectiveKind s.nodes i n
  if ¬ codeBelongs kind code then count .kindMismatch n.entry.lane (some n.entry.station) s
  else if kind = .pad ∧ code = .contact then
    let touched := setContact i (contactAfter n.entry item.value) s
    if isCandidate n item.value then filterItem n.entry kind code item arrival touched else touched
  else filterItem n.entry kind code item arrival s

/-- One REPORT item: the Deck Poller discards codes 0 and 8 to 15 (R4), and the Intake Filter takes the others through
figure 2-1 (R29). -/
def takeItem (station : Byte) (arrival : Tick) (s : State) (item : ReportItem) : State :=
  match itemOfNumber item.code with
  | none => count .kindMismatch none (some station) s
  | some code =>
    match findNode s.nodes station with
    | none => count .kindMismatch none (some station) s
    | some i =>
      match s.nodes[i] with
      | none => s
      | some n => takeEntryItem i n item code arrival s

/-- The items of a REPORT, each whole before the next (R4, R40). -/
def takeReport (station : Byte) (arrival : Tick) (payload : List Byte) (s : State) : State :=
  (itemsOf payload).foldl (takeItem station arrival) s

end Sys2Proof.Machine
end

