-- ==== Sys2Proof/Machine/Poller.lean ====
section
/-! DEFINITION. The Deck Poller (chapter 1): the schedule of visits, misses and good answers, and the command gap. -/

namespace Sys2Proof.Machine

/-- Polling runs once the load is DONE and HOLD has ended (R176). -/
def pollingRuns (s : State) : Bool := s.loader.load == .done && !s.loader.hold

/-- The recall window has not expired: its timer runs and its span has not elapsed (R16, R43). -/
def recallWindowOpen (s : State) : Bool := s.clock.recallWindow.isSome && !expired s.clock.recallWindow

/-- Is the starter in the priority set in this heat state (R16)? -/
def starterMatters (s : State) : Bool :=
  s.heat.state == .armed || s.heat.state == .marks || (s.heat.state == .running && recallWindowOpen s)

/-- Is the panel passed over or skipped (R17)? -/
def panelWaits (s : State) (i : Fin 64) (n : Node) : Bool := effectiveKind s.nodes i n == .panel && responseQueued s

/-- Is the entry at an index in the priority set (R16)? -/
def inPrioritySet (s : State) (i : Fin 64) : Bool :=
  match s.nodes[i] with
  | none => false
  | some n =>
    n.run.presence != .absent
      && (n.entry.pollClass == .priority
        || (effectiveKind s.nodes i n == .starter && starterMatters s)
        || n.run.boost)

/-- Can the entry at an index be given a priority visit (R15)? -/
def takesPriorityVisit (s : State) (i : Fin 64) : Bool :=
  inPrioritySet s i
    && (match s.nodes[i] with
        | some n => !panelWaits s i n
        | none => false)

/-- The next member of the priority set in rotation: the first above the priority pointer, going round; none counts as
below entry 0 (R15). -/
def nextPriority (s : State) : Option (Fin 64) :=
  match s.deck.priorityPointer with
  | none => nodeIndices.find? (takesPriorityVisit s)
  | some p =>
    match nodeIndices.find? fun i => p < i && takesPriorityVisit s i with
    | some i => some i
    | none => nodeIndices.find? (takesPriorityVisit s)

/-- What the normal pointer does with the entry under it (R12, R14). -/
inductive NormalStep where
  | skip | rest | visit
deriving DecidableEq, Repr

/-- The normal step at an index. The panel is not polled while its RESPONSE is queued, and its rest count is not changed
by the skip, ABSENT or not (R12, R14, R17). -/
def normalStep (s : State) (i : Fin 64) : NormalStep :=
  match s.nodes[i] with
  | none => .skip
  | some n =>
    if panelWaits s i n then .skip
    else if n.run.presence = .absent ∧ n.run.restCount < Config.restLimit then .rest
    else .visit

/-- Set the rest count of the entry at an index from the count it has (R14). -/
def setRest (i : Fin 64) (f : Nat → Nat) (s : State) : State :=
  s.setNodes (modifyAt s.nodes i
    (Option.map fun n => { n with run := { n.run with restCount := f n.run.restCount } }))

/-- Move the normal pointer past an index (R12). -/
def passIndex (i : Fin 64) (s : State) : State :=
  s.setDeck { s.deck with normalPointer := i + 1 }

/-- The normal pointer moves on over the indices given, to the first entry it visits: that index, the rest counts and
the pointer moved on; none when it visits none of them (R12, R14). -/
def walkNormal : List (Fin 64) → State → State × Option (Fin 64)
  | [], s => (s, none)
  | i :: rest, s =>
    match normalStep s i with
    | .skip => walkNormal rest (passIndex i s)
    | .rest => walkNormal rest (setRest i (· + 1) (passIndex i s))
    | .visit =>
      let visited := passIndex i s
      match s.nodes[i] with
      | some n => (if n.run.presence = .absent then setRest i (fun _ => 0) visited else visited, some i)
      | none => (visited, some i)

/-- The indices from the normal pointer to the end of the round. -/
def roundRest (s : State) : List (Fin 64) := nodeIndices.filter fun i => s.deck.normalPointer ≤ i

/-- A new round begins with nothing visited (R12). -/
def beginRound (s : State) : State := s.setDeck { s.deck with normalPointer := 0, roundVisited := false }

/-- The normal visit that comes next: in the round in hand, or, when that has visited an entry already, in the next
round. With no index, the last round looked at was an empty round, and the pointer is back at entry 0 (R12). -/
def nextNormal (s : State) : State × Option (Fin 64) :=
  match walkNormal (roundRest s) s with
  | (s', some i) => (s', some i)
  | (s', none) =>
    if s'.deck.roundVisited then
      match walkNormal nodeIndices (beginRound s') with
      | (s'', some i) => (s'', some i)
      | (s'', none) => (beginRound s'', none)
    else (beginRound s', none)

/-- Note a visit in the round in hand. A visit of entry 63 ends its round as it is taken, and the new round has visited
nothing yet (R12). -/
def noteVisit (i : Fin 64) (s : State) : State :=
  s.setDeck { s.deck with roundVisited := i != Fin.last 63 }

/-- The exchange that comes next: a priority visit when four normal visits have been taken and a member can be visited,
else a normal visit. With no index the round is an empty one (R12, R13, R15). -/
def nextVisit (s : State) : State × Option (Fin 64) :=
  let normal (s : State) : State × Option (Fin 64) :=
    match nextNormal s with
    | (s', some i) =>
      (noteVisit i (s'.setDeck { s'.deck with normalCount := s'.deck.normalCount + 1 }), some i)
    | (s', none) => (s', none)
  if Config.normalVisits ≤ s.deck.normalCount then
    let dealt := s.setDeck { s.deck with normalCount := 0 }
    match nextPriority s with
    | some i => (dealt.setDeck { dealt.deck with priorityPointer := some i, roundVisited := true }, some i)
    | none => normal dealt
  else normal s

/-- May the Deck Poller choose its next exchange: polling runs, and the exchange before is over with its gap, or with
the quiet after an empty round (R12, R21)? The gap is skipped when the deck command queue is empty. -/
def mayChoose (s : State) : Bool :=
  pollingRuns s
    && (match s.deck.phase with
        | .ready => true
        | .gap => s.deck.queue.isEmpty
        | .quiet timer => timerDue timer
        | .awaiting _ _ => false)

/-- The POLL telegram to a station: the notice summary for the panel, no payload for any other (R7). -/
def pollTelegram (s : State) (station : Byte) : Telegram :=
  ⟨station, s.settings.station, kindPoll, if isPanel s.nodes station then noticeSummary s else []⟩

/-- Send a POLL to the entry at an index and open the answer window (R7). -/
def sendPoll (i : Fin 64) (s : State) : State :=
  match s.nodes[i] with
  | none => s
  | some n =>
    s.setDeck { s.deck with
      line := some (pollTelegram s n.entry.station)
      phase := .awaiting n.entry.station (startTimer s.now s.now Config.answerWindow) }

/-- The telegram as it goes out in a command gap: a pass-through telegram takes the module's station as source then
(R2, R3, R140). -/
def gapTelegram (s : State) (e : DeckEntry) : Telegram :=
  if e.origin = .passThrough then { e.telegram with src := s.settings.station } else e.telegram

/-- Send the head of the deck command queue, if there is one (R21). -/
def sendHead (s : State) : State :=
  match s.deck.queue with
  | [] => s
  | e :: rest =>
    noteLampSent e (s.setDeck { s.deck with
      queue := rest
      line := some (gapTelegram s e)
      queryOnLine := s.deck.queryOnLine || e.origin == .query })

/-- End the poll exchange; its command gap is due (R7, R21). -/
def endExchange (s : State) : State := s.setDeck { s.deck with phase := .gap }

/-- The runtime fields after a miss: the miss count stops at 255, the 8th makes the station ABSENT, and the rest count
of an ABSENT station starts again (R10, R11). -/
def runtimeAfterMiss (r : NodeRuntime) : NodeRuntime :=
  let misses := min 255 (r.missCount + 1)
  if r.presence = .absent then { r with missCount := misses, restCount := 0 }
  else if misses = Config.missLimit then { r with missCount := misses, presence := .absent, restCount := 0 }
  else { r with missCount := misses }

/-- A miss of the station polled: `failedCheck` when a complete telegram failed its check (R10). -/
def takeMiss (station : Byte) (failedCheck : Bool) (s : State) : State :=
  let lane := stationLane s.nodes station
  let missed := count .pollMiss lane (some station) s
  let checked := if failedCheck then count .badCheck lane (some station) missed else missed
  setNodesReporting (changeRuntime checked.nodes station runtimeAfterMiss) checked

/-- The runtime fields after a good answer (R10, R11). -/
def runtimeAfterAnswer (r : NodeRuntime) : NodeRuntime :=
  { r with presence := .present, missCount := 0, restCount := 0 }

/-- A good answer's effect on presence: an ABSENT station comes back and raises NODE_BACK (R11). -/
def notePresent (station : Byte) (s : State) : State :=
  let back := stationPresence s.nodes station = some .absent
  let present := setNodesReporting (changeRuntime s.nodes station runtimeAfterAnswer) s
  if back then raise .nodeBack present else present

/-- What a complete answer carries (R9). -/
inductive AnswerContent where
  | report (payload : List Byte)
  | order (code tag : Byte) (body : List Byte)
  | answer (payload : List Byte)
  | notGood
deriving DecidableEq, Repr

/-- The content of a telegram received from the station polled, `panel` telling whether that is the panel: what R9
takes as a good answer, and what it does not. -/
def answerContent (own station : Byte) (panel : Bool) (t : Telegram) : AnswerContent :=
  if t.dest ≠ own ∨ t.src ≠ station then .notGood
  else if t.kind = kindReport then
    if t.payload.length = 0 ∨ t.payload.length = 4 ∨ t.payload.length = 8 then .report t.payload else .notGood
  else if t.kind = kindAnswer then .answer t.payload
  else if t.kind = kindOrder ∧ panel then
    match t.payload with
    | code :: tag :: _ :: _ :: body => .order code tag body
    | _ => .notGood
  else .notGood

end Sys2Proof.Machine
end

