-- ==== Sys2Proof/Machine/Operands.lean ====
section
/-! DEFINITION. The table entries as TLOAD writes them, as TREAD reads them and as the image stores them (table 10-4), with
the acceptance rule of each table. -/

namespace Sys2Proof.Machine

/-! ### Written forms and acceptance -/

/-- The end a byte of a written node entry names: any value other than 0 and 1 is none (table 10-4). -/
def poolEndOf (b : Byte) : Option PoolEnd :=
  if b = 0 then some .start else if b = 1 then some .turn else none

/-- The lane a byte of a written node entry names, when it is one of the ten. -/
def laneOf (b : Byte) : Option Lane := if h : b.toNat < 10 then some ⟨b.toNat, h⟩ else none

/-- The button position a byte of a written node entry names, when it is one of the three. -/
def positionOf (b : Byte) : Option Nat := if 1 ≤ b.toNat ∧ b.toNat ≤ 3 then some b.toNat else none

/-- Is the kind one that requires a lane (R23, condition 4)? -/
def needsLane (k : NodeKind) : Bool := k == .block || k == .pad || k == .button

/-- The stored fields of a loading node write whose kind is `kind`: clamped, and without what the kind does not use
(R22, R24). -/
def storedNode (bytes : List Byte) (kind : NodeKind) : NodeEntry where
  station := byteAt bytes 1
  kind := kind
  lane := if needsLane kind then laneOf (byteAt bytes 3) else none
  poolEnd :=
    match kind with
    | .block => some .start
    | .pad | .button => poolEndOf (byteAt bytes 4)
    | _ => none
  position := if kind = .button then positionOf (byteAt bytes 5) else none
  latency := min 2000 (field bytes 6 2)
  threshold := if kind = .pad then max 1 (byteAt bytes 8).toNat else 1
  mode := if kind = .pad ∧ (byteAt bytes 9).getLsbD 0 then .level else .edge
  pollClass := if (byteAt bytes 9).getLsbD 1 then .priority else .normal

/-- Is a station fit for a node entry at an index: in 2..126, not the module's own, and held by no loaded entry at
another index (R23, conditions 1 and 2)? -/
def stationFits (s : State) (i : Fin 64) (station : Byte) : Bool :=
  2 ≤ station.toNat && station.toNat ≤ 126 && station != s.settings.station
    && !nodeIndices.any fun j => j != i && holdsStation s.nodes station j

/-- Has a loading write the lane, end and position its kind requires (R23, conditions 4 to 6)? -/
def roleFits (e : NodeEntry) : Bool :=
  (!needsLane e.kind || e.lane.isSome)
    && (!(e.kind == .pad || e.kind == .button) || e.poolEnd.isSome)
    && (!(e.kind == .button) || e.position.isSome)

/-- A node entry write at an index: the entry to stand there, or none when the write is refused (R23, R24). -/
def nodeWrite (s : State) (i : Fin 64) (bytes : List Byte) : Option (Option Node) :=
  if byteAt bytes 0 = 0 then some none
  else if ¬ stationFits s i (byteAt bytes 1) then none
  else
    match nodeKindOf (byteAt bytes 2).toNat with
    | none => none
    | some kind =>
      let entry := storedNode bytes kind
      if roleFits entry then some (some ⟨entry, freshRuntime⟩) else none

/-- A filter entry write: the entry to stand there, or none when it is refused (R36). -/
def filterWrite (bytes : List Byte) : Option (Option FilterEntry) :=
  if byteAt bytes 0 = 0 then some none
  else
    match actionOf (byteAt bytes 4).toNat with
    | none => none
    | some action => some (some ⟨byteAt bytes 1, byteAt bytes 2, (byteAt bytes 3).setWidth 7, action⟩)

/-- A value clamped to a range (R59). -/
def clamp (low high n : Nat) : Nat := max low (min high n)

/-- The stored heat head of a loading write, its limits clamped (R58, R59). -/
def storedHead (bytes : List Byte) : HeatHead where
  event := field bytes 1 2
  heat := field bytes 3 1
  lengths := field bytes 4 1
  legs := field bytes 5 1
  minLength := clamp 5000 600000 (field bytes 6 4)
  heatLimit := clamp 30 3600 (field bytes 10 2)
  recallWindow := clamp 0 30 (field bytes 12 1)
  exchangeMargin := clamp 0 200 (field bytes 13 1)
  discrepancy := clamp 0 2000 (field bytes 14 2)
  buttonWindow := clamp 1 30 (field bytes 16 1)
  buttonArming := clamp 0 3600 (field bytes 17 2)
  resultHold := clamp 0 600 (field bytes 19 2)

/-- A heat head write: the head to stand, or none when it is refused (R58). -/
def headWrite (bytes : List Byte) : Option (Option HeatHead) :=
  if byteAt bytes 0 = 0 then some none
  else
    let h := storedHead bytes
    if 1 ≤ h.event ∧ h.event ≤ 9999 ∧ 1 ≤ h.heat ∧ h.heat ≤ 99 then some (some h) else none

/-- The lane entry a write leaves; every write is accepted (R60). -/
def laneWrite (bytes : List Byte) : LaneEntry :=
  if byteAt bytes 0 = 0 then unwrittenLaneEntry
  else ⟨true, byteAt bytes 1 ≠ 0, BitVec.ofNat 16 (field bytes 2 2)⟩

/-- Period and edges as stored: a period below 2 becomes 2, an edge above the period becomes the period, an off edge
below the on edge becomes the on edge (R142). -/
def clampPattern (period onEdge offEdge : Nat) : PatternSet :=
  let p := max 2 period
  let on := min p onEdge
  ⟨p, on, max on (min p offEdge)⟩

/-- A pattern write: the staged set and the force, or none when it is refused (R142). -/
def patternWrite (bytes : List Byte) : Option (PatternSet × Force) :=
  if byteAt bytes 0 = 0 then some (darkPattern, .none)
  else
    match forceOf (byteAt bytes 4).toNat with
    | none => none
    | some force => some (clampPattern (field bytes 1 1) (field bytes 2 1) (field bytes 3 1), force)

/-- A notice entry as written: enable and direction, the other bits ignored (R158). -/
def noticeWrite (n : Notice) (b : Byte) : Notice :=
  { n with enabled := b.getLsbD 0, direction := if b.getLsbD 1 then .panel else .board }

/-- A settings write at an index: the settings that result, or none when it is refused (R160). -/
def settingWrite (s : State) (index : Nat) (b : Byte) : Option Settings :=
  let t := s.settings
  match index with
  | 0 =>
    if 1 ≤ b.toNat ∧ b.toNat ≤ 126 ∧ (findNode s.nodes b).isNone then some { t with station := b } else none
  | 1 => if b = 0 then some { t with mode := .park } else if b = 1 then some { t with mode := .home } else none
  | 2 => if b.toNat ≤ 1 then some { t with holdBit := b == 1 } else none
  | 3 => if b.toNat ≤ 1 then some { t with toConsole := t.toConsole.set 0 (b == 1) } else none
  | 4 => if b.toNat ≤ 1 then some { t with toConsole := t.toConsole.set 1 (b == 1) } else none
  | 5 => if b.toNat ≤ 1 then some { t with toConsole := t.toConsole.set 2 (b == 1) } else none
  | 6 => if b.toNat ≤ 1 then some { t with toConsole := t.toConsole.set 3 (b == 1) } else none
  | _ => none

/-! ### Read forms -/

/-- Size of an entry as written, by its index; positions beyond the table's end take the size of its last entry
(table 10-4, R158). -/
def entrySize (table : TableCode) (index : Nat) : Nat :=
  match table with
  | .nodes => 10
  | .filters => 5
  | .bank => if index = 0 then 21 else 4
  | .patterns => 5
  | .notices => 1
  | .settings => 1

/-- The byte of an optional lane: 255 none (table 10-4). -/
def optLaneByte (lane : Option Lane) : Byte :=
  match lane with
  | some l => byteOf l.val
  | none => 255

/-- The byte of an optional end: the manual leaves the code of none open (notes/assumptions/9.md). -/
def optEndByte (e : Option PoolEnd) : Byte :=
  match e with
  | some .start => 0
  | some .turn => 1
  | none => Config.noneEnd

/-- A node entry in its written form; an empty one is all 0 (R151, R174). -/
def nodeBytes (entry : Option Node) : List Byte :=
  match entry with
  | none => List.replicate 10 0
  | some n =>
    let e := n.entry
    [1, e.station, byteOf (nodeKindCode e.kind), optLaneByte e.lane, optEndByte e.poolEnd, byteOf (e.position.getD 0)]
      ++ nat16 e.latency ++ [byteOf e.threshold, flagByte [e.mode == .level, e.pollClass == .priority]]

/-- What the read form of a node entry adds (table 10-4). -/
def nodeRuntimeBytes (s : State) (i : Fin 64) : List Byte :=
  match s.nodes[i] with
  | none => List.replicate 4 0
  | some n =>
    [byteOf (presenceCode n.run.presence), byteOf n.run.missCount, byteOf n.run.restCount,
      flagByte [n.run.boost, n.run.contact == .above, effectiveKind s.nodes i n == .other]]

/-- A filter entry in its written form; an empty one is all 0. -/
def filterBytes (entry : Option FilterEntry) : List Byte :=
  match entry with
  | none => List.replicate 5 0
  | some f => [1, f.stationValue, f.stationMask, f.items.setWidth 8, byteOf (actionCode f.action)]

/-- A heat head in its written form; an empty one is all 0. -/
def headBytes (head : Option HeatHead) : List Byte :=
  match head with
  | none => List.replicate 21 0
  | some h =>
    [1] ++ nat16 h.event ++ [byteOf h.heat, byteOf h.lengths, byteOf h.legs] ++ nat32 h.minLength
      ++ nat16 h.heatLimit ++ [byteOf h.recallWindow, byteOf h.exchangeMargin] ++ nat16 h.discrepancy
      ++ [byteOf h.buttonWindow] ++ nat16 h.buttonArming ++ nat16 h.resultHold

/-- A lane entry in its written form. -/
def laneEntryBytes (e : LaneEntry) : List Byte := [markByte e.loaded, markByte e.occupied] ++ be16 e.competitor

/-- A set of period and edges, one byte each. -/
def patternSetBytes (p : PatternSet) : List Byte := [byteOf p.period, byteOf p.onEdge, byteOf p.offEdge]

/-- A pattern in its read form (table 10-4); the staged fields are 0 when no set is staged. -/
def patternBytes (p : Pattern) : List Byte :=
  patternSetBytes p.live ++ [markByte p.staged.isSome]
    ++ (match p.staged with
        | some set => patternSetBytes set
        | none => [0, 0, 0])
    ++ [byteOf p.phase, byteOf (forceCode p.force)]

/-- Enable and direction of a notice kind as one byte (table 10-4). -/
def noticeByte (n : Notice) : Byte := flagByte [n.enabled, n.direction == .panel]

/-- The settings, one byte an index (section 10.3). -/
def settingsBytes (t : Settings) : List Byte :=
  [t.station, byteOf (modeCode t.mode), markByte t.holdBit] ++ t.toConsole.toList.map markByte

/-- An entry of a table in its read form, for an index inside the table (R151, table 10-4). -/
def readEntry (s : State) (bank : Bank) (table : TableCode) (index : Nat) : List Byte :=
  match table with
  | .nodes =>
    if h : index < 64 then nodeBytes s.nodes[index] ++ nodeRuntimeBytes s ⟨index, h⟩ else []
  | .filters => if h : index < 16 then filterBytes s.filters[index] else []
  | .bank =>
    match index with
    | 0 => headBytes bank.head
    | k + 1 => if h : k < 10 then laneEntryBytes bank.lanes[k] else []
  | .patterns => if h : index < 3 then patternBytes s.lamps.patterns[index] else []
  | .notices =>
    if h : index < 12 then [noticeByte s.orders.notices[index], markByte s.orders.notices[index].status] else []
  | .settings => [byteAt (settingsBytes s.settings) index]

/-! ### The stored image (R174) -/

/-- The parts of the image, in the order of table 12-1: settings, notices, node table, filter table, and each pattern's
staged set when one is present, its live set otherwise (R174, R177). -/
def imageParts (s : State) : List Byte :=
  settingsBytes s.settings ++ s.orders.notices.toList.map noticeByte ++ s.nodes.toList.flatMap nodeBytes
    ++ s.filters.toList.flatMap filterBytes
    ++ s.lamps.patterns.toList.flatMap fun p => patternSetBytes (p.staged.getD p.live)

/-- The image: the parts and their check, high byte first (R174). -/
def imageOf (s : State) : List Byte := imageParts s ++ be16 (crc16 (imageParts s))

/-- Bytes of the parts of an image. -/
def partsSize : Nat := 748

/-- Bytes of an image. -/
def imageSize : Nat := 750

/-- A run of bytes written from an address on. -/
def cellsFrom (address : Nat) : List Byte → List Host.Cell
  | [] => []
  | b :: rest => (address, b) :: cellsFrom (address + 1) rest

/-- The byte writes of a SAVE, in order: the complement of the check over the stored check, the parts, the true check
(R177). -/
def saveSequence (image : List Byte) : List Host.Cell :=
  let check := image.drop partsSize
  cellsFrom partsSize (check.map fun b => ~~~b) ++ cellsFrom 0 (image.take partsSize) ++ cellsFrom partsSize check

/-- The memory when the first `n` byte writes of a SAVE have been made (R178). -/
def savedUpTo (n : Nat) (image : List Byte) (m : Memory) : Memory := m.writeAll ((saveSequence image).take n)

/-- Is an image good: the memory answers, it is not blank, and its check holds (R174)? A memory that acknowledges but reads
back with a fault does not answer, so that its image is taken as bad also where its check holds; that is the model's choice
(notes/assumptions/26.md). -/
def imageGood (answers : Bool) (image : List Byte) : Bool :=
  answers && !image.all (fun b => b == 255) && crc16 image == 0#16

end Sys2Proof.Machine
end

