-- ==== Sys2Proof/Machine/Channel.lean ====
section
/-! DEFINITION. Taking an order (R150): the place reservation, the control channel and its timers, the load chain's hold on
it, and the answer on either line. -/

namespace Sys2Proof.Machine

/-- The answer to an order: status, reason and response body. -/
structure Answer where
  status : Status
  reason : Nat
  body : List Byte
deriving DecidableEq, Repr

/-- An answer with no reason and an empty body. -/
def plain (status : Status) : Answer := ⟨status, 0, []⟩

/-- A refusal with its reason (R150). -/
def refuse (reason : Nat) : Answer := ⟨.refused, reason, []⟩

/-- The other side of the channel. -/
def otherSide : Side → Side
  | .console => .panel
  | .panel => .console

/-! ### Timers of the channel -/

/-- Replace the Order Handler's handover timer. -/
def setHandover (t : Option Timer) (s : State) : State := s.setOrders { s.orders with handover := t }

/-- Start the handover timer while a claim is live and no load chain is open (R153, R154, R159). -/
def startHandover (s : State) : State :=
  if s.orders.claim.isSome ∧ s.orders.chain.isNone then
    setHandover (some (startTimer s.now s.now Config.handoverSpan)) s
  else s

/-- Start the home timer in HOME mode while PANEL owns the channel and no load chain is open (R156). -/
def startHome (s : State) : State :=
  if s.settings.mode = .home ∧ s.orders.owner = .panel ∧ s.orders.chain.isNone then
    s.setOrders { s.orders with home := some (startTimer s.now s.now Config.homeSpan) }
  else s

/-- Register or renew the claim of the side that does not own the channel (R153). -/
def registerClaim (s : State) : State :=
  let claimed := s.setOrders { s.orders with claim := some (startTimer s.now s.now Config.claimSpan) }
  if s.orders.claim.isSome then claimed else startHandover claimed

/-- Drop the claim; the handover timer stops with it (R153, R155, R167). -/
def dropClaim (s : State) : State := s.setOrders { s.orders with claim := none, handover := none }

/-- Ownership passes to a side: the claim is consumed and the claim, handover and home timers stop; in HOME mode the
home timer starts as PANEL gains ownership (R154 to R156). -/
def passOwnership (side : Side) (s : State) : State :=
  startHome (s.setOrders { s.orders with owner := side, claim := none, handover := none, home := none })

/-- What a channel-needing order of the owner does to the timers, whatever its answer (R154, R156). -/
def noteOwnerOrder (s : State) : State := startHome (startHandover s)

/-- The load chain closes or is aborted: the handover timer starts if a claim is live, and the home timer as R156 gives
(R159). -/
def closeChain (s : State) : State := startHome (startHandover (s.setOrders { s.orders with chain := none }))

/-- A load chain opens: the handover and home timers stop (R156, R159). -/
def openChain (chain : LoadChain) (s : State) : State :=
  s.setOrders { s.orders with chain := some chain, handover := none, home := none }

/-! ### The tests of an order (R150) -/

/-- Does an order need the channel (table 10-1)? -/
def needsChannel : OrderCode → Bool
  | .tload | .arm | .endh | .abort | .clear | .mark | .src | .tset | .tctl | .save | .trst => true
  | .stat | .lane | .tread | .treadTally | .mailr | .mailw | .nclr | .nqry | .relh | .crel => false

/-- Is an order accepted from the console only (table 10-1)? -/
def consoleOnly : OrderCode → Bool
  | .nqry | .relh => true
  | _ => false

/-- Does a body length suit an order (tables 10-2, 11-2)? -/
def lengthSuits (code : OrderCode) (n : Nat) : Bool :=
  match code with
  | .stat | .arm | .endh | .abort | .clear | .save | .relh | .trst | .crel => n == 0
  | .lane | .mark | .src | .nclr | .treadTally => n == 2
  | .tread | .tset => n == 4
  | .tload => 4 ≤ n && n ≤ 44
  | .mailr => n == 1
  | .mailw => n == 9
  | .nqry => 1 ≤ n && n ≤ 44
  | .tctl => n == 8

/-- What tests 2 to 6 of R150 make of an order. -/
inductive Gate where
  /-- Answered at test 2, 3, 4 or 5; nothing changes. -/
  | answered (a : Answer)
  /-- Answered RETRY at test 6; the sender's claim is registered or renewed. -/
  | retry
  /-- It goes on to its own tests. -/
  | passed
deriving DecidableEq, Repr

/-- Test 2 of R150: NOTREADY while the load is in progress and, for an order other than RELH, while HOLD is in
force. -/
def notReady (s : State) (relh : Bool) : Bool := s.loader.load == .loading || (s.loader.hold && !relh)

/-- Tests 2 to 6 of R150 for a code of table 1-5, with a body of `n` bytes. -/
def gate (side : Side) (code : OrderCode) (n : Nat) (s : State) : Gate :=
  if notReady s (code == .relh) then .answered (plain .notReady)
  else if ¬ lengthSuits code n then .answered (refuse 14)
  else if side = .panel ∧ consoleOnly code then .answered (refuse 15)
  else if needsChannel code ∧ s.orders.owner ≠ side then .retry
  else .passed

/-- An order that has passed tests 2 to 6: a channel-needing one is its owner's, and counts for the timers. -/
def noteOrder (code : OrderCode) (s : State) : State := if needsChannel code then noteOwnerOrder s else s

/-- Tests 2 to 7 of an order, `effect` being its own tests and effect (R150). -/
def decideOrder (side : Side) (code : OrderCode) (body : List Byte) (effect : State → State × Answer) (s : State) :
    State × Answer :=
  match gate side code body.length s with
  | .answered a => (s, a)
  | .retry => (registerClaim s, plain .retry)
  | .passed => effect (noteOrder code s)

/-- An order whose code is not in table 1-5: NOTREADY, or REFUSED with reason 13 (R150, tests 2 and 3). -/
def decideUnknown (s : State) : Answer := if notReady s false then plain .notReady else refuse 13

/-! ### Answering -/

/-- The payload of a RESPONSE (table 1-4). -/
def responsePayload (code : Nat) (tag : Byte) (a : Answer) : List Byte :=
  [byteOf code, tag, byteOf (statusNumber a.status), byteOf a.reason] ++ a.body

/-- The RESPONSE to an order from `dest` (R3). -/
def responseTelegram (s : State) (dest : Byte) (code : Nat) (tag : Byte) (a : Answer) : Telegram :=
  ⟨dest, s.settings.station, kindResponse, responsePayload code tag a⟩

/-- Make the place reservation of a console order; none when the queue is full and holds neither CLOCK nor SPLIT
(R137). -/
def reservePlace (s : State) : Option State :=
  (makeRoom s.board.reserved s.board.queue).map fun queue =>
    s.setBoard { s.board with queue := queue, reserved := true }

/-- The RESPONSE fills the place of the reservation (R137). -/
def fillReservation (t : Telegram) (s : State) : State :=
  s.setBoard { s.board with queue := s.board.queue ++ [t], reserved := false }

/-- A console order that finds no place: not executed, counted as BOARD_DISCARD with its source as station, and OVERRUN
raised (R138). -/
def refuseUnplaced (src : Byte) (s : State) : State := raise .overrun (count .boardDiscard none (some src) s)

/-- Send the answer of a console order into its reservation. -/
def respondConsole (src : Byte) (code : Nat) (tag : Byte) (decided : State × Answer) : State :=
  fillReservation (responseTelegram decided.1 src code tag decided.2) decided.1

/-- Take a console order, `effect` being its own tests and effect (R137, R138, R150). -/
def consoleOrder (src : Byte) (code : OrderCode) (tag : Byte) (body : List Byte)
    (effect : State → State × Answer) (s : State) : State :=
  match reservePlace s with
  | some placed => respondConsole src (orderNumber code) tag (decideOrder .console code body effect placed)
  | none => refuseUnplaced src s

end Sys2Proof.Machine
end

