-- ==== Sys2Proof/Machine/Tables.lean ====
section
/-! DEFINITION. The tables' own orders: the entry writes of TLOAD with the load chain (section 10.3), and TREAD. -/

namespace Sys2Proof.Machine

/-! ### Entry writes into the module: `none` is a refused write, which leaves the table as it was -/

/-- Write a node entry (R23, R24, R11). -/
def writeNode (index : Nat) (bytes : List Byte) (s : State) : Option State :=
  if h : index < 64 then
    (nodeWrite s ⟨index, h⟩ bytes).map fun entry => setNodesReporting (s.nodes.set index entry) s
  else none

/-- Write a filter entry (R36). -/
def writeFilter (index : Nat) (bytes : List Byte) (s : State) : Option State :=
  if h : index < 16 then (filterWrite bytes).map fun entry => s.setFilters (s.filters.set index entry) else none

/-- Replace the standby bank (R61). -/
def setStandby (b : Bank) (s : State) : State :=
  match otherBank s.banks.active with
  | .a => s.setBanks { s.banks with a := b }
  | .b => s.setBanks { s.banks with b := b }

/-- Write an entry of the standby bank (R58 to R61). -/
def writeBank (index : Nat) (bytes : List Byte) (s : State) : Option State :=
  match index with
  | 0 => (headWrite bytes).map fun head => setStandby { s.standbyBank with head := head } s
  | k + 1 =>
    if h : k < 10 then some (setStandby { s.standbyBank with lanes := s.standbyBank.lanes.set k (laneWrite bytes) } s)
    else none

/-- Write a pattern entry: the force at once, the set staged, and the lanes of the pattern evaluated (R142). -/
def writePattern (index : Nat) (bytes : List Byte) (s : State) : Option State :=
  if h : index < 3 then
    (patternWrite bytes).map fun write =>
      let p := { s.lamps.patterns[index] with staged := some write.1, force := write.2 }
      evaluateAssigned (fun i => i.val == index)
        (s.setLamps { s.lamps with patterns := s.lamps.patterns.set index p })
  else none

/-- Write a notice entry (R158). -/
def writeNotice (index : Nat) (bytes : List Byte) (s : State) : Option State :=
  if h : index < 12 then
    some (s.setOrders { s.orders with
      notices := modifyAt s.orders.notices ⟨index, h⟩ fun n => noticeWrite n (byteAt bytes 0) })
  else none

/-- The home timer after a settings write: selecting PARK stops it; a write that leaves the module in HOME mode starts
it while PANEL owns the channel (R156). -/
def followMode (index : Nat) (s : State) : State :=
  if index ≠ 1 then s
  else if s.settings.mode = .park then s.setOrders { s.orders with home := none }
  else startHome s

/-- Write a setting (R160). -/
def writeSetting (index : Nat) (bytes : List Byte) (s : State) : Option State :=
  (settingWrite s index (byteAt bytes 0)).map fun t => followMode index (s.setSettings t)

/-- Write an entry of a table (R158). -/
def writeEntry (table : TableCode) (index : Nat) (bytes : List Byte) (s : State) : Option State :=
  match table with
  | .nodes => writeNode index bytes s
  | .filters => writeFilter index bytes s
  | .bank => writeBank index bytes s
  | .patterns => writePattern index bytes s
  | .notices => writeNotice index bytes s
  | .settings => writeSetting index bytes s

/-! ### Load chains -/

/-- The entries of a TLOAD telegram, each of the size its table gives for the index it would be written to; none when
they do not divide into whole entries (R158). `fuel` bounds their number. -/
def splitEntries (table : TableCode) : (fuel index : Nat) → List Byte → Option (List (List Byte))
  | _, _, [] => some []
  | 0, _, _ :: _ => none
  | fuel + 1, index, bytes =>
    let size := entrySize table index
    if bytes.length < size then none
    else (splitEntries table fuel (index + 1) (bytes.drop size)).map fun rest => bytes.take size :: rest

/-- What writing the entries of one telegram has come to. -/
structure Written where
  state : State
  next : Nat
  toCome : Nat
  written : Nat
  refused : Nat
  firstRefused : Option Nat
  overflowed : Bool
deriving DecidableEq, Repr

/-- Take one entry of a TLOAD telegram: written or refused at the next index while entries are to come, discarded
after (R158). -/
def takeEntry (table : TableCode) (w : Written) (bytes : List Byte) : Written :=
  if w.toCome = 0 then { w with overflowed := true }
  else
    match writeEntry table w.next bytes w.state with
    | some s => { w with state := s, next := w.next + 1, toCome := w.toCome - 1, written := w.written + 1 }
    | none =>
      { w with
        next := w.next + 1, toCome := w.toCome - 1, refused := w.refused + 1
        firstRefused := some (w.firstRefused.getD w.next) }

/-- Write the entries of a telegram of the open chain `c`, and close the chain when nothing is to come (R157 to
R159). -/
def writeEntries (c : LoadChain) (entries : List (List Byte)) (s : State) : State × Answer :=
  let w := entries.foldl (takeEntry c.table) ⟨s, c.next, c.toCome, 0, 0, none, false⟩
  let kept := w.state.setOrders { w.state.orders with
    chain := some { c with next := w.next, toCome := w.toCome } }
  let body (next : Byte) : List Byte :=
    [byteOf w.written, byteOf w.refused, byteOf (w.firstRefused.getD 255), next]
  let status : Status := if w.overflowed then .trunc else .ok
  if w.toCome = 0 then (closeChain w.state, ⟨status, 0, body 255⟩)
  else (kept, ⟨status, 0, body (byteOf w.next)⟩)

/-- Is a table's TLOAD answered BUSY in the state the module is in: the bank lock (R62), or a node table or pattern
write while the heat is MARKS, RUNNING or CLOSING (R157, R159)? -/
def tableBusy (s : State) (table : TableCode) : Bool :=
  match table with
  | .bank => s.banks.pendingSwap
  | .nodes | .patterns =>
    s.heat.state == .marks || s.heat.state == .running || s.heat.state == .closing
  | _ => false

/-- A first telegram (R157): an open chain is aborted with no notice, the table, range and state are tested, the chain
opens and the entries are written. -/
def tloadFirst (body : List Byte) (s : State) : State × Answer :=
  let s := if s.orders.chain.isSome then closeChain s else s
  let start := field body 2 1
  let total := field body 3 1
  match tableOf (byteAt body 1).toNat with
  | none => (s, refuse 1)
  | some table =>
    if tableSize table < start + total then (s, refuse 2)
    else if tableBusy s table then (s, plain .busy)
    else
      match splitEntries table 44 start (body.drop 4) with
      | none => (s, refuse 14)
      | some entries =>
        let chain := ⟨table, start, total, startTimer s.now s.now Config.chainGapSpan⟩
        writeEntries chain entries (openChain chain s)

/-- A continuation (R159). -/
def tloadContinuation (body : List Byte) (s : State) : State × Answer :=
  match s.orders.chain with
  | none => (s, refuse 3)
  | some old =>
    let chain := { old with gap := startTimer s.now s.now Config.chainGapSpan }
    let restarted := s.setOrders { s.orders with chain := some chain }
    if tableBusy s chain.table then (restarted, plain .busy)
    else
      match splitEntries chain.table 44 chain.next (body.drop 4) with
      | none => (restarted, refuse 14)
      | some entries => writeEntries chain entries restarted

/-- TLOAD by its chain mark: 1 first, 0 continuation, any other value REFUSED with reason 4 (R157). -/
def orderTload (body : List Byte) (s : State) : State × Answer :=
  if byteAt body 0 = 1 then tloadFirst body s
  else if byteAt body 0 = 0 then tloadContinuation body s
  else (s, refuse 4)

/-! ### TREAD -/

/-- Room of a TREAD response for entries: 48 bytes less the response head and the four bytes before the entries
(R151). -/
def treadRoom : Nat := 40

/-- The entries of a table from an index on, as many as are asked, the table has and the room holds (R151). -/
def readEntries (s : State) (bank : Bank) (table : TableCode) : (asked index room : Nat) → List (List Byte)
  | 0, _, _ => []
  | asked + 1, index, room =>
    if tableSize table ≤ index then []
    else
      let entry := readEntry s bank table index
      if room < entry.length then []
      else entry :: readEntries s bank table asked (index + 1) (room - entry.length)

/-- The bank a TREAD names: 0 ACTIVE, 1 STANDBY, resolved as the order is taken (R63). -/
def namedBank (s : State) (b : Byte) : Option Bank :=
  if b = 0 then some s.activeBank else if b = 1 then some s.standbyBank else none

/-- TREAD (R151). -/
def orderTread (body : List Byte) (s : State) : State × Answer :=
  let start := field body 2 1
  let asked := field body 3 1
  match tableOf (byteAt body 0).toNat with
  | none => (s, refuse 1)
  | some table =>
    let bank := if table = .bank then namedBank s (byteAt body 1) else some s.activeBank
    match bank with
    | none => (s, refuse 2)
    | some bank =>
      if tableSize table ≤ start then (s, refuse 2)
      else
        let entries := readEntries s bank table asked start treadRoom
        (s, ⟨if entries.length < asked then .trunc else .ok, 0,
          [byteAt body 0, byteAt body 2, byteOf entries.length, 0] ++ entries.flatten⟩)

end Sys2Proof.Machine
end

