-- ==== Sys2Proof/Machine/Orders.lean ====
section
/-! DEFINITION. The orders' own tests and effects (test 7 of R150), one definition an order, and the order that a panel's
answer carries. -/

namespace Sys2Proof.Machine

/-! ### Reading orders (R151, R173) -/

/-- The finish order list of STAT: lane numbers in list order, then 255, ten bytes (table 10-3). -/
def finishOrderBytes (s : State) : List Byte := padTo 10 255 (s.results.order.map laneByte)

/-- STAT (R151, table 10-3). -/
def orderStat (s : State) : State × Answer :=
  let chainByte : Byte :=
    match s.orders.chain with
    | some c => byteOf (tableNumber c.table)
    | none => 0
  (s, ⟨.ok, 0,
    [byteOf (heatCode s.heat.state), bankFlags s, byteOf s.results.revision] ++ finishOrderBytes s
      ++ [byteOf s.board.queue.length, byteOf s.deck.queue.length, byteOf (sideCode s.orders.owner),
        markByte s.orders.claim.isSome, chainByte, byteOf (slotCode s.orders.slot)]
      ++ noticeStatuses s ++ [byteOf (modeCode s.settings.mode), s.settings.station]⟩)

/-- A sample of a LANE head page; unused ones are 0 (table 10-3). -/
def sampleBytes (r : LaneRecord) (k : Nat) : List Byte :=
  match r.samples[k]? with
  | some x => [byteOf x.position] ++ int32 x.time
  | none => List.replicate 5 0

/-- The reported difference of an exchange of a lane, 0 where it has none (table 10-3). -/
def differenceBytes (r : LaneRecord) (number : Nat) : List Byte :=
  int16 (reportedDifference ((r.exchanges.find? fun x => x.number == number).bind fun x => x.difference))

/-- The head page of LANE (table 10-3). -/
def laneHeadPage (lane : Lane) (r : LaneRecord) : List Byte :=
  [laneByte lane, byteOf (laneStateCode r.state), byteOf r.lengthCount, laneFlags r, placeByte r.place,
      byteOf (sourceCode r.source)]
    ++ be16 r.competitor ++ int16 (reportedReaction r.reaction) ++ shownTime id r.padFinish ++ shownTime id r.official
    ++ [byteOf r.samples.length] ++ sampleBytes r 0 ++ sampleBytes r 1 ++ sampleBytes r 2
    ++ [verdictByte r 1, verdictByte r 2, verdictByte r 3]
    ++ differenceBytes r 1 ++ differenceBytes r 2 ++ differenceBytes r 3

/-- The splits page of LANE from length `k` on, up to eight splits and up to the length count (R151). -/
def laneSplitsPage (lane : Lane) (r : LaneRecord) (k : Nat) : List Byte :=
  let page := (r.splits.drop (k - 1)).take 8
  [laneByte lane, byteOf k, byteOf page.length, 0]
    ++ page.flatMap fun x => [markByte x.time.isSome] ++ shownTime id x.time

/-- LANE (R151). -/
def orderLane (body : List Byte) (s : State) : State × Answer :=
  let k := (byteAt body 1).toNat
  match laneOf (byteAt body 0) with
  | none => (s, refuse 1)
  | some lane =>
    let r := s.lanes[lane]
    if k = 0 then (s, ⟨.ok, 0, laneHeadPage lane r⟩)
    else if r.lengthCount < k then (s, plain .noData)
    else (s, ⟨.ok, 0, laneSplitsPage lane r k⟩)

/-- A counter in TREAD-TALLY's response (R173). -/
def counterBytes (index : Nat) (c : TallyCounter) : List Byte :=
  [byteOf index, byteOf c.select] ++ be16 (c.laneMask.setWidth 16)
    ++ [c.stationValue, c.stationMask, flagByte [c.enabled, c.overflowNotice, c.overflow]] ++ be24 c.count

/-- TREAD-TALLY (R173). A first counter above 7 is refused also when the number asked is 0, which is the model's choice
(notes/assumptions/23.md). -/
def orderTreadTally (body : List Byte) (s : State) : State × Answer :=
  let first := field body 0 1
  let asked := field body 1 1
  if 7 < first then (s, refuse 1)
  else
    let given := min (min asked 4) (8 - first)
    let page := (s.tally.counters.toList.drop first).take given
    (s, ⟨if given < asked then .trunc else .ok, 0,
      [markByte s.tally.frozen, markByte s.tally.freezeOnOverflow]
        ++ (page.zipIdx first).flatMap fun p => counterBytes p.2 p.1⟩)

/-! ### Mailboxes and notices (R164, R166) -/

/-- The mailbox a byte names. -/
def mailboxOf (b : Byte) : Option (Fin 4) := if h : b.toNat < 4 then some ⟨b.toNat, h⟩ else none

/-- MAILR (R164). -/
def orderMailr (body : List Byte) (s : State) : State × Answer :=
  match mailboxOf (byteAt body 0) with
  | none => (s, refuse 1)
  | some m => (s, ⟨.ok, 0, s.orders.mailboxes[m].toList⟩)

/-- The source side of a mailbox (R164). -/
def mailSource (s : State) (m : Fin 4) : Side := if s.settings.toConsole[m] then .panel else .console

/-- The notice direction that reaches a side: BOARD the console, PANEL the panel (R164, R166). -/
def directionOf : Side → NoticeDirection
  | .console => .board
  | .panel => .panel

/-- MAILW: the data replace the contents; from the source side MAILBOX is raised when its direction names the reading
side (R164). -/
def orderMailw (side : Side) (body : List Byte) (s : State) : State × Answer :=
  match mailboxOf (byteAt body 0) with
  | none => (s, refuse 1)
  | some m =>
    let stored := s.setOrders { s.orders with
      mailboxes := s.orders.mailboxes.set m (Vector.ofFn fun k : Fin 8 => byteAt body (k.val + 1)) }
    if side = mailSource s m ∧ (s.notice .mailbox).direction = directionOf (otherSide side) then
      (raise .mailbox stored, plain .ok)
    else (stored, plain .ok)

/-- A notice kind after an NCLR: cleared when it is named, directed to the requester's side, and not held by the
NODE_LOST condition (R166). -/
def clearedNotice (side : Side) (named held : Bool) (n : Notice) : Notice :=
  if named && n.direction == directionOf side && !held then { n with status := false } else n

/-- NCLR (R166). -/
def orderNclr (side : Side) (body : List Byte) (s : State) : State × Answer :=
  let named := BitVec.ofNat 16 (field body 0 2)
  let held (i : Fin 12) : Bool := i == noticeIndex .nodeLost && nodeLost s.nodes
  let s' := s.setOrders { s.orders with
    notices := Vector.ofFn fun i : Fin 12 => clearedNotice side (named.getLsbD i) (held i) s.orders.notices[i] }
  (s', ⟨.ok, 0, noticeStatuses s'⟩)

/-! ### The node query (R161 to R163) -/

/-- The slot enters HELD: QUERY_DONE is raised and the collection timer started (R162). -/
def holdResult (q : Query) (result : QueryResult) (s : State) : State :=
  raise .queryDone (s.setOrders { s.orders with
    slot := .held q result (startTimer s.now s.now Config.collectionSpan) })

/-- The QUERY telegram of a query (table 1-2). -/
def queryTelegram (s : State) (q : Query) : Telegram := ⟨q.station, s.settings.station, kindQuery, q.bytes⟩

/-- The answer to the NQRY that collects a result; a payload over 43 bytes is cut (R163). -/
def collected (q : Query) : QueryResult → Answer
  | .noResponse => ⟨.noResp, 0, [q.station]⟩
  | .answer payload =>
    ⟨if 43 < payload.length then .trunc else .ok, 0, q.station :: payload.take 43⟩

/-- The answer to an NQRY that differs from the slot's: NORESP when its station is not PRESENT, otherwise RETRY
(table 10-5). -/
def otherQuery (s : State) (station : Byte) : Answer :=
  if stationPresence s.nodes station = some .present then plain .retry else ⟨.noResp, 0, [station]⟩

/-- NQRY (R161, R163). -/
def orderNqry (body : List Byte) (s : State) : State × Answer :=
  let q : Query := ⟨byteAt body 0, body.drop 1⟩
  if (findNode s.nodes q.station).isNone then (s, refuse 1)
  else
    match s.orders.slot with
    | .free =>
      if stationPresence s.nodes q.station = some .present then
        (offerDeck ⟨.query, queryTelegram s q⟩ (s.setOrders { s.orders with slot := .waiting q none }), plain .retry)
      else (s, ⟨.noResp, 0, [q.station]⟩)
    | .waiting held _ => (s, if q = held then plain .retry else otherQuery s q.station)
    | .held held result _ =>
      if q = held then (s.setOrders { s.orders with slot := .free }, collected q result)
      else (s, otherQuery s q.station)

/-- An ANSWER from a station: the result when the slot's answer timer runs for a query to it, discarded otherwise
(R9, R162). -/
def takeQueryAnswer (station : Byte) (payload : List Byte) (s : State) : State :=
  match s.orders.slot with
  | .waiting q (some _) => if q.station = station then holdResult q (.answer payload) s else s
  | _ => s

/-! ### HOLD and the channel (R155, R176) -/

/-- RELH from the console once the load is DONE: HOLD ends (R176). -/
def orderRelh (s : State) : State × Answer := (s.setLoader { s.loader with hold := false }, plain .ok)

/-- CREL (R155). -/
def orderCrel (side : Side) (s : State) : State × Answer :=
  let ok (s : State) : State × Answer := (s, ⟨.ok, 0, [byteOf (sideCode s.orders.owner)]⟩)
  if s.orders.owner = side then
    if s.orders.chain.isSome then (s, plain .busy)
    else if s.orders.claim.isSome then ok (passOwnership (otherSide side) s)
    else ok s
  else if s.orders.claim.isSome then ok (dropClaim s)
  else ok s

/-! ### Heat orders (R65, R81, R88, R89, R112, R123) -/

/-- Is a load chain to the heat bank open (R65, test 2)? -/
def bankChainOpen (s : State) : Bool :=
  match s.orders.chain with
  | some c => c.table == .bank
  | none => false

/-- ARM (R65). In RUNNING it sets the pending swap, also where a START has just been taken in MARKS, of which table 4-6
says that the ARM is BUSY whichever is first; that R65 decides is the model's reading (notes/assumptions/28.md). -/
def orderArm (s : State) : State × Answer :=
  if s.heat.state = .marks ∨ bankChainOpen s then (s, plain .busy)
  else if s.banks.pendingSwap then (s, plain .ok)
  else
    match validateBank s.standbyBank with
    | some why => (s, refuse (armFaultCode why))
    | none =>
      match s.heat.state with
      | .running | .closing => (s.setBanks { s.banks with pendingSwap := true }, plain .ok)
      | _ => (swapBanks s, plain .ok)

/-- END HEAT (R81). -/
def orderEndh (s : State) : State × Answer :=
  match s.heat.state with
  | .running => (enterClosing s, plain .ok)
  | .closing | .closed => (s, plain .ok)
  | .idle | .armed | .marks => (s, plain .busy)

/-- ABORT (R88). -/
def orderAbort (s : State) : State × Answer :=
  match s.heat.state with
  | .idle => (s, plain .busy)
  | _ => (abortHeat s, plain .ok)

/-- CLEAR (R89). -/
def orderClear (s : State) : State × Answer :=
  match s.heat.state with
  | .idle => (s, plain .ok)
  | .armed | .closed => (clearHeat s, plain .ok)
  | .marks | .running | .closing => (s, plain .busy)

/-- A change of a lane's DQ flag in a heat state that takes it: the placing of the state, and, when DQ was set in
RUNNING, the test for the end of swimming (R80, R112, R117, R125). -/
def changeDq (lane : Lane) (dq : Bool) (s : State) : State :=
  let changed := setLane lane { s.lanes[lane] with dq := dq } s
  if s.heat.state = .closed then reviseResults changed
  else
    let placed := placeProvisionally none changed
    if dq then testEndOfSwimming placed else placed

/-- MARK (R112). -/
def orderMark (body : List Byte) (s : State) : State × Answer :=
  match laneOf (byteAt body 0) with
  | none => (s, refuse 1)
  | some lane =>
    if 1 < (byteAt body 1).toNat then (s, refuse 2)
    else if s.heat.state = .idle ∨ s.heat.state = .armed ∨ s.heat.state = .marks then (s, plain .busy)
    else if s.lanes[lane].state = .vacant then (s, plain .noData)
    else if s.lanes[lane].dq = (byteAt body 1 == 1) then (s, plain .ok)
    else (changeDq lane (byteAt body 1 == 1) s, plain .ok)

/-- The source a byte of SRC names (table 10-2). -/
def sourceOf (b : Byte) : Option Source := if b = 1 then some .pad else if b = 2 then some .backup else none

/-- The time of a source of a lane (R123). -/
def sourceTime (r : LaneRecord) : Source → Option Int
  | .pad => r.padFinish
  | .backup => backupTime r.samples
  | .none => none

/-- SRC (R123, R124). -/
def orderSrc (body : List Byte) (s : State) : State × Answer :=
  match laneOf (byteAt body 0), sourceOf (byteAt body 1) with
  | none, _ => (s, refuse 1)
  | some _, none => (s, refuse 2)
  | some lane, some source =>
    let r := s.lanes[lane]
    if s.heat.state ≠ .closed then (s, plain .busy)
    else if r.state = .vacant then (s, plain .noData)
    else
      match sourceTime r source with
      | none => (s, plain .noData)
      | some time =>
        if r.source = source then (s, plain .ok)
        else (reviseResults (setLane lane { r with official := some time, source := source } s), plain .ok)

/-! ### Tally orders (R171, R172) -/

/-- The counter a byte names. -/
def counterOf (b : Byte) : Option (Fin 8) := if h : b.toNat < 8 then some ⟨b.toNat, h⟩ else none

/-- Change one counter. -/
def changeCounter (i : Fin 8) (f : TallyCounter → TallyCounter) (s : State) : State :=
  s.setTally { s.tally with counters := modifyAt s.tally.counters i f }

/-- Change every counter. -/
def changeCounters (f : TallyCounter → TallyCounter) (s : State) : State :=
  s.setTally { s.tally with counters := mapAll s.tally.counters f }

/-- TSET (R171). -/
def orderTset (body : List Byte) (s : State) : State × Answer :=
  match counterOf (byteAt body 0) with
  | none => (s, refuse 1)
  | some i => (changeCounter i (fun c => { c with count := BitVec.ofNat 24 (field body 1 3) }) s, plain .ok)

/-- TCTL CONFIGURE (R172). A counter above 7 is tested before the event select, which is the model's choice
(notes/assumptions/23.md). -/
def tctlConfigure (body : List Byte) (s : State) : State × Answer :=
  match counterOf (byteAt body 1) with
  | none => (s, refuse 1)
  | some i =>
    if 17 < field body 2 1 then (s, refuse 2)
    else
      (changeCounter i (fun c =>
        { c with
          select := field body 2 1
          laneMask := BitVec.ofNat 11 (field body 3 2)
          stationValue := byteAt body 5
          stationMask := byteAt body 6
          enabled := (byteAt body 7).getLsbD 0
          overflowNotice := (byteAt body 7).getLsbD 1 }) s, plain .ok)

/-- TCTL FREEZE (R172). -/
def tctlFreeze (s : State) : State × Answer := (s.setTally { s.tally with frozen := true }, plain .ok)

/-- TCTL UNFREEZE (R172). -/
def tctlUnfreeze (s : State) : State × Answer := (s.setTally { s.tally with frozen := false }, plain .ok)

/-- TCTL ZERO (R172). -/
def tctlZero (s : State) : State × Answer := (changeCounters (fun c => { c with count := 0 }) s, plain .ok)

/-- TCTL CLEAR OVERFLOW of one counter, or of all eight for 255 (R172). -/
def tctlClearOverflow (body : List Byte) (s : State) : State × Answer :=
  if byteAt body 1 = 255 then (changeCounters (fun c => { c with overflow := false }) s, plain .ok)
  else
    match counterOf (byteAt body 1) with
    | none => (s, refuse 1)
    | some i => (changeCounter i (fun c => { c with overflow := false }) s, plain .ok)

/-- TCTL SET MODE: flags bit 2 sets or clears freeze-on-overflow (R172). -/
def tctlSetMode (body : List Byte) (s : State) : State × Answer :=
  (s.setTally { s.tally with freezeOnOverflow := (byteAt body 7).getLsbD 2 }, plain .ok)

/-- TCTL by its action; an action outside 1..6 is REFUSED with reason 3 (R172). -/
def orderTctl (body : List Byte) (s : State) : State × Answer :=
  match (byteAt body 0).toNat with
  | 1 => tctlConfigure body s
  | 2 => tctlFreeze s
  | 3 => tctlUnfreeze s
  | 4 => tctlZero s
  | 5 => tctlClearOverflow body s
  | 6 => tctlSetMode body s
  | _ => (s, refuse 3)

/-! ### SAVE and TRST (R177, R167) -/

/-- SAVE: a snapshot is taken and its write begins; BUSY while one is being written (R177). -/
def orderSave (s : State) : State × Answer :=
  match s.loader.save with
  | .writing _ => (s, plain .busy)
  | .idle => (s.setLoader { s.loader with save := .writing (imageOf s) }, plain .ok)

/-- The notices at TIMING RESET: every status is cleared but NODE_LOST, which follows its condition, and
CONFIG_INVALID, which is kept; none is routed (R167). -/
def resetNotices (s : State) : State :=
  s.setOrders { s.orders with
    notices := Vector.ofFn fun i : Fin 12 =>
      let n := s.orders.notices[i]
      if i = noticeIndex .configInvalid then n
      else { n with status := i == noticeIndex .nodeLost && nodeLost s.nodes } }

/-- The Order Handler at TIMING RESET (R167, steps 1 to 3). -/
def resetOrders (s : State) : State :=
  startHome (s.setOrders { s.orders with chain := none, slot := .free, claim := none, handover := none, home := none })

/-- The flush of the board queue; a reservation stays (R139). -/
def flushBoard (s : State) : State := s.setBoard { s.board with queue := [] }

/-- TIMING RESET of every block (R167, R91, R139, R21, R148): the tick counter runs on, and every table is kept. The
HEAT telegram carrying IDLE is offered behind the board flush and raises no HEAT_CHANGE. -/
def timingReset (s : State) : State :=
  let reset := flushBoard (resetHeat (resetOrders s))
  resetNotices (flushDeck (offer (heatTelegram reset) reset))

/-- TRST (R167). -/
def orderTrst (s : State) : State × Answer := (timingReset s, plain .ok)

/-! ### The panel's order -/

/-- An order's own tests and effect, by its code (test 7 of R150). -/
def orderEffect (side : Side) (code : OrderCode) (body : List Byte) (s : State) : State × Answer :=
  match code with
  | .stat => orderStat s
  | .lane => orderLane body s
  | .tread => orderTread body s
  | .treadTally => orderTreadTally body s
  | .mailr => orderMailr body s
  | .mailw => orderMailw side body s
  | .nclr => orderNclr side body s
  | .nqry => orderNqry body s
  | .relh => orderRelh s
  | .crel => orderCrel side s
  | .tload => orderTload body s
  | .arm => orderArm s
  | .endh => orderEndh s
  | .abort => orderAbort s
  | .clear => orderClear s
  | .mark => orderMark body s
  | .src => orderSrc body s
  | .tset => orderTset body s
  | .tctl => orderTctl body s
  | .save => orderSave s
  | .trst => orderTrst s

/-- The panel's order decided (R150, tests 2 to 7). -/
def decidePanel (code : Byte) (body : List Byte) (s : State) : State × Answer :=
  match orderOfNumber code.toNat with
  | none => (s, decideUnknown s)
  | some c => decideOrder .panel c body (orderEffect .panel c body) s

/-- Take an order of the panel; its RESPONSE is offered to the deck command queue, to the station it came from (R10,
R19, R150). -/
def panelOrder (station code tag : Byte) (body : List Byte) (s : State) : State :=
  let decided := decidePanel code body s
  offerDeck ⟨.response, responseTelegram decided.1 station code.toNat tag decided.2⟩ decided.1

end Sys2Proof.Machine
end

