-- ==== Sys2Proof/Machine/Loader.lean ====
section
/-! DEFINITION. The Configuration Loader (chapter 12): the power-on load and the end of a SAVE. -/

namespace Sys2Proof.Machine

/-- A load in progress: the state so far, and whether an entry has been refused. -/
structure Loaded where
  state : State
  refused : Bool
deriving DecidableEq, Repr

/-- Take in the entries of one part of the image, in index order, each under its table's acceptance rule; a refused
entry leaves the default (R175). -/
def loadPart (write : Nat → List Byte → State → Option State) (base size count : Nat) (image : List Byte)
    (w : Loaded) : Loaded :=
  (List.range count).foldl (fun (w : Loaded) (i : Nat) =>
    match write i ((image.drop (base + i * size)).take size) w.state with
    | some s => { w with state := s }
    | none => { w with refused := true }) w

/-- A pattern of the image: period and edges clamped and put straight into the live set, nothing staged, force NONE
(R175). The phase, which has stepped since the release of RESET, is brought under the loaded period
(notes/assumptions/8.md). -/
def loadedPattern (live : PatternSet) (p : Pattern) : Pattern := ⟨live, none, p.phase % live.period, .none⟩

/-- Set the live sets of the three patterns (R175). -/
def setPatterns (live : Fin 3 → PatternSet) (s : State) : State :=
  s.setLamps { s.lamps with patterns := Vector.ofFn fun i => loadedPattern (live i) s.lamps.patterns[i] }

/-- The default live set of a pattern (table 12-2). -/
def defaultPattern (i : Fin 3) : PatternSet := if i = 0 then steadyPattern else darkPattern

/-- Every part at its default (table 12-2). -/
def defaultParts (s : State) : State :=
  let tables := ((s.setNodes (Vector.replicate 64 none)).setFilters (Vector.replicate 16 none)).setSettings
    defaultSettings
  setPatterns defaultPattern (tables.setOrders { tables.orders with
    notices := mapAll tables.orders.notices fun n => { n with enabled := true, direction := .board } })

/-- The live set of a pattern in an image, clamped (R142, R175). -/
def imagePattern (image : List Byte) (i : Fin 3) : PatternSet :=
  clampPattern (field image (739 + 3 * i.val) 1) (field image (740 + 3 * i.val) 1) (field image (741 + 3 * i.val) 1)

/-- A good image taken in, part by part: settings, notices, node table, filter table, place patterns (R175). -/
def takeImage (image : List Byte) (s : State) : Loaded :=
  let settings := loadPart writeSetting 0 1 7 image ⟨defaultParts s, false⟩
  let notices := loadPart writeNotice 7 1 12 image settings
  let nodes := loadPart writeNode 19 10 64 image notices
  let filters := loadPart writeFilter 659 5 16 image nodes
  { filters with state := setPatterns (imagePattern image) filters.state }

/-- The end of the load: the image or the defaults are in the tables, HOLD takes the hold bit, the load is DONE, and
CONFIG_INVALID is raised when the image was not good or an entry was refused (R175, R176). -/
def finishLoad (answers : Bool) (s : State) : State :=
  let image := s.loader.memory.bytes imageSize
  let good := imageGood answers image
  let loaded := if good then takeImage image s else ⟨defaultParts s, false⟩
  let t := loaded.state
  let done := t.setLoader { t.loader with load := .done, hold := t.loader.hold || t.settings.holdBit }
  if good && !loaded.refused then done else raise .configInvalid done

/-- Does an image read back agree with the snapshot's check (R177)? -/
def readBackAgrees (snapshot image : List Byte) : Bool :=
  let check := snapshot.drop partsSize
  image.drop partsSize == check && be16 (crc16 (image.take partsSize)) == check

/-- The memory and the outcome of a write of the snapshot (R177). That the memory then holds the bytes read back, also
where their own check holds, the former image where it acknowledged no byte, and the new one where it acknowledged every
byte but not the read-back, is the model's choice (notes/assumptions/24.md). -/
def saveOutcome (how : SaveEnd) (snapshot : List Byte) (m : Memory) : Memory × Bool :=
  let whole := savedUpTo (saveSequence snapshot).length snapshot m
  match how with
  | .complete => (whole, true)
  | .misread image => (whole.writeAll (cellsFrom 0 (image.take imageSize)), readBackAgrees snapshot (image.take imageSize))
  | .stopped written => (savedUpTo written snapshot m, false)

/-- The end of a SAVE: the image is read back, the save state returns to IDLE, and CONFIG_INVALID is raised on a
mismatch (R177). -/
def finishSave (how : SaveEnd) (snapshot : List Byte) (s : State) : State :=
  let outcome := saveOutcome how snapshot s.loader.memory
  let ended := s.setLoader { s.loader with save := .idle, memory := outcome.1 }
  if outcome.2 then ended else raise .configInvalid ended

/-- What POWER-ON leaves in the memory: a write in progress is abandoned after `written` byte writes (R178). That a write
abandoned with its last byte made, before the read-back has ended, leaves the new image good is the model's choice
(notes/assumptions/25.md). -/
def memoryAtPowerOn (written : Nat) (l : ConfigLoader) : Memory :=
  match l.save with
  | .idle => l.memory
  | .writing image => savedUpTo written image l.memory

end Sys2Proof.Machine
end

