-- ==== Sys2Proof/Machine/BoardLine.lean ====
section
/-! DEFINITION. The meanings of the board line's commands that are no order of table 1-5 (R1, R5, R6, R131, R140,
R150). -/

namespace Sys2Proof.Machine

/-- BOARD_BAD_TELEGRAM (R1): discarded and counted. -/
def execBoardBadTelegram (now : Tick) (s : State) : Host.Outcome State Fault Refusal :=
  .next (count .badCheck none none (advanceTo now s))

/-- SHORT_ORDER (R5): discarded and counted; no RESPONSE. -/
def execShortOrder (now : Tick) (_src : Byte) (_payload : List Byte) (s : State) :
    Host.Outcome State Fault Refusal :=
  .next (count .badCheck none none (advanceTo now s))

/-- BOARD_NON_ORDER (R6): discarded and counted. -/
def execBoardNonOrder (now : Tick) (_src _kind : Byte) (_payload : List Byte) (s : State) :
    Host.Outcome State Fault Refusal :=
  .next (count .badCheck none none (advanceTo now s))

/-- Does the intake pass a telegram through: its destination is held by a loaded node entry, and its kind is 128 to
255 (R140)? -/
def passesThrough (s : State) (dest kind : Byte) : Bool := (findNode s.nodes dest).isSome && 128 ≤ kind.toNat

/-- PASS_THROUGH (R140): offered to the deck command queue, or discarded and counted. It takes the module's station as
source when it goes out (R2). A telegram to the module itself does not come here. -/
def execPassThrough (now : Tick) (dest src kind : Byte) (payload : List Byte) (s : State) :
    Host.Outcome State Fault Refusal :=
  let s := advanceTo now s
  .next
    (if dest = s.settings.station then s
     else if passesThrough s dest kind then offerDeck ⟨.passThrough, ⟨dest, src, kind, payload⟩⟩ s
     else count .passDiscard none (some dest) s)

/-- Line time of a board telegram with the quiet behind it, in µs (table 8-2). -/
def boardLineTime (t : Telegram) : Nat := Config.boardByteTime * (frame t).length + Config.boardGap

/-- Is the board transmit pair idle, its quiet over (R131)? -/
def boardIdle (s : State) : Bool :=
  match s.board.busy with
  | none => true
  | some t => timerDue t

/-- The head of the board queue goes onto the line (R131). -/
def sendBoardHead (s : State) : State :=
  match s.board.queue with
  | [] => s
  | t :: rest =>
    s.setBoard { s.board with
      queue := rest, line := some t, busy := some (startTimer s.now s.now (boardLineTime t)) }

/-- BOARD_SEND (R131). -/
def execBoardSend (now : Tick) (s : State) : Host.Outcome State Fault Refusal :=
  let s := advanceTo now s
  .next (if boardIdle s then sendBoardHead s else s)

/-- A console order whose code is not in table 1-5 (R137, R138, R150). -/
def unknownOrder (src tag code : Byte) (s : State) : State :=
  match reservePlace s with
  | some placed => respondConsole src code.toNat tag (placed, decideUnknown placed)
  | none => refuseUnplaced src s

/-- ORDER_UNKNOWN_CODE (R150). -/
def execOrderUnknownCode (now : Tick) (src tag code : Byte) (_body : List Byte) (s : State) :
    Host.Outcome State Fault Refusal :=
  .next (unknownOrder src tag code (advanceTo now s))

end Sys2Proof.Machine
end

