-- ==== Sys2Proof/Machine/ControlOrders.lean ====
section
/-! DEFINITION. The meanings of the console's orders that need the control channel (table 10-1). -/

namespace Sys2Proof.Machine

/-- TLOAD with a chain mark other than 0 from the console (R157, R158). -/
def execTloadFirst (now : Tick) (src tag : Byte) (body : List Byte) (s : State) : Host.Outcome State Fault Refusal :=
  .next (consoleOrder src .tload tag body (orderTload body) (advanceTo now s))

/-- TLOAD with chain mark 0 from the console (R158, R159). -/
def execTloadContinuation (now : Tick) (src tag : Byte) (body : List Byte) (s : State) : Host.Outcome State Fault Refusal :=
  .next (consoleOrder src .tload tag body (orderTload body) (advanceTo now s))

/-- ARM from the console (R65 to R68). -/
def execArm (now : Tick) (src tag : Byte) (body : List Byte) (s : State) : Host.Outcome State Fault Refusal :=
  .next (consoleOrder src .arm tag body orderArm (advanceTo now s))

/-- END HEAT from the console (R81). -/
def execEndh (now : Tick) (src tag : Byte) (body : List Byte) (s : State) : Host.Outcome State Fault Refusal :=
  .next (consoleOrder src .endh tag body orderEndh (advanceTo now s))

/-- ABORT from the console (R88). -/
def execAbort (now : Tick) (src tag : Byte) (body : List Byte) (s : State) : Host.Outcome State Fault Refusal :=
  .next (consoleOrder src .abort tag body orderAbort (advanceTo now s))

/-- CLEAR from the console (R89). -/
def execClear (now : Tick) (src tag : Byte) (body : List Byte) (s : State) : Host.Outcome State Fault Refusal :=
  .next (consoleOrder src .clear tag body orderClear (advanceTo now s))

/-- MARK from the console (R112). -/
def execMark (now : Tick) (src tag : Byte) (body : List Byte) (s : State) : Host.Outcome State Fault Refusal :=
  .next (consoleOrder src .mark tag body (orderMark body) (advanceTo now s))

/-- SRC from the console (R123, R124). -/
def execSrc (now : Tick) (src tag : Byte) (body : List Byte) (s : State) : Host.Outcome State Fault Refusal :=
  .next (consoleOrder src .src tag body (orderSrc body) (advanceTo now s))

/-- TSET from the console (R171). -/
def execTset (now : Tick) (src tag : Byte) (body : List Byte) (s : State) : Host.Outcome State Fault Refusal :=
  .next (consoleOrder src .tset tag body (orderTset body) (advanceTo now s))

/-- TCTL CONFIGURE from the console (R172). -/
def execTctlConfigure (now : Tick) (src tag : Byte) (body : List Byte) (s : State) : Host.Outcome State Fault Refusal :=
  .next (consoleOrder src .tctl tag body (tctlConfigure body) (advanceTo now s))

/-- TCTL FREEZE from the console (R172). -/
def execTctlFreeze (now : Tick) (src tag : Byte) (body : List Byte) (s : State) : Host.Outcome State Fault Refusal :=
  .next (consoleOrder src .tctl tag body tctlFreeze (advanceTo now s))

/-- TCTL UNFREEZE from the console (R172). -/
def execTctlUnfreeze (now : Tick) (src tag : Byte) (body : List Byte) (s : State) : Host.Outcome State Fault Refusal :=
  .next (consoleOrder src .tctl tag body tctlUnfreeze (advanceTo now s))

/-- TCTL ZERO from the console (R172). -/
def execTctlZero (now : Tick) (src tag : Byte) (body : List Byte) (s : State) : Host.Outcome State Fault Refusal :=
  .next (consoleOrder src .tctl tag body tctlZero (advanceTo now s))

/-- TCTL CLEAR OVERFLOW from the console (R172). -/
def execTctlClearOverflow (now : Tick) (src tag : Byte) (body : List Byte) (s : State) : Host.Outcome State Fault Refusal :=
  .next (consoleOrder src .tctl tag body (tctlClearOverflow body) (advanceTo now s))

/-- TCTL SET MODE from the console (R172). -/
def execTctlSetMode (now : Tick) (src tag : Byte) (body : List Byte) (s : State) : Host.Outcome State Fault Refusal :=
  .next (consoleOrder src .tctl tag body (tctlSetMode body) (advanceTo now s))

/-- TCTL with an action outside 1..6 from the console (R172). -/
def execTctlUnknownAction (now : Tick) (src tag : Byte) (body : List Byte) (s : State) : Host.Outcome State Fault Refusal :=
  .next (consoleOrder src .tctl tag body (fun s => (s, refuse 3)) (advanceTo now s))

/-- SAVE from the console (R177). -/
def execSave (now : Tick) (src tag : Byte) (body : List Byte) (s : State) : Host.Outcome State Fault Refusal :=
  .next (consoleOrder src .save tag body orderSave (advanceTo now s))

/-- A TRST from the console that finds no place: taken through tests 2 to 6 of R150; when it passes them the flush is made
first and its reservation after it, and when one of them would answer it, it is not taken (R139). -/
def trstUnplaced (src tag : Byte) (body : List Byte) (s : State) : State :=
  match gate .console .trst body.length s with
  | .passed =>
    let noted := noteOrder .trst s
    respondConsole src (orderNumber .trst) tag
      (orderTrst (noted.setBoard { noted.board with queue := [], reserved := true }))
  | _ => refuseUnplaced src s

/-- TRST from the console (R139, R167). -/
def consoleTrst (src tag : Byte) (body : List Byte) (s : State) : State :=
  match reservePlace s with
  | some _ => consoleOrder src .trst tag body orderTrst s
  | none => trstUnplaced src tag body s

/-- TRST (R139, R167). -/
def execTrst (now : Tick) (src tag : Byte) (body : List Byte) (s : State) : Host.Outcome State Fault Refusal :=
  .next (consoleTrst src tag body (advanceTo now s))

end Sys2Proof.Machine
end

