-- ==== Sys2Proof/Machine/DeckLine.lean ====
section
/-! DEFINITION. The meanings of the deck line's commands (sections 1.2 to 1.5, R162). -/

namespace Sys2Proof.Machine

/-- POLL (R7, R12 to R17): the next visit is chosen and polled. With no entry to visit the round is an empty one, which
EMPTY_ROUND ends. -/
def execPoll (now : Tick) (s : State) : Host.Outcome State Fault Refusal :=
  let s := advanceTo now s
  .next
    (if mayChoose s then
      match nextVisit s with
      | (chosen, some i) => sendPoll i chosen
      | (_, none) => s
     else s)

/-- EMPTY_ROUND (R12, R21): the head of the deck command queue goes out, and the line is left quiet for 1 ms. -/
def execEmptyRound (now : Tick) (s : State) : Host.Outcome State Fault Refusal :=
  let s := advanceTo now s
  .next
    (if mayChoose s then
      match nextVisit s with
      | (_, some _) => s
      | (ended, none) =>
        let sent := sendHead ended
        sent.setDeck { sent.deck with phase := .quiet (startTimer s.now s.now Config.emptyRoundQuiet) }
     else s)

/-- What a good answer of the station polled carries is handed on (R10): the items of a REPORT to the Intake Filter, an
ORDER or an ANSWER to the Order Handler. Any other answer is a miss. -/
def takeContent (station : Byte) (content : AnswerContent) (s : State) : State :=
  match content with
  | .report payload => takeReport station s.now payload (notePresent station s)
  | .order code tag body => panelOrder station code tag body (notePresent station s)
  | .answer payload => takeQueryAnswer station payload (notePresent station s)
  | .notGood => takeMiss station false s

/-- An answer of the station polled (R1, R9, R10). -/
def takeAnswer (station : Byte) (bytes : List Byte) (s : State) : State :=
  match receive bytes with
  | .good t => takeContent station (answerContent s.settings.station station (isPanel s.nodes station) t) s
  | .checkFails => takeMiss station true s
  | .incomplete => takeMiss station false s

/-- DECK_ANSWER (R8 to R10): the answer of the station polled, at its arrival tick; the exchange ends. Bytes that come
while no answer is awaited are ignored (R7, R21). -/
def execDeckAnswer (now : Tick) (bytes : List Byte) (s : State) : Host.Outcome State Fault Refusal :=
  let s := advanceTo now s
  .next
    (match s.deck.phase with
     | .awaiting station _ => endExchange (takeAnswer station bytes s)
     | _ => s)

/-- ANSWER_WINDOW_MISS (R7, R10): the answer window has passed with no byte; the exchange ends as a miss. -/
def execAnswerWindowMiss (now : Tick) (s : State) : Host.Outcome State Fault Refusal :=
  let s := advanceTo now s
  .next
    (match s.deck.phase with
     | .awaiting station window => if timerDue window then endExchange (takeMiss station false s) else s
     | _ => s)

/-- DECK_BAD_TELEGRAM (R1, R10): the answer is not complete, or its length field is above 48; the exchange ends as a
miss. -/
def execDeckBadTelegram (now : Tick) (s : State) : Host.Outcome State Fault Refusal :=
  let s := advanceTo now s
  .next
    (match s.deck.phase with
     | .awaiting station _ => endExchange (takeMiss station false s)
     | _ => s)

/-- COMMAND_GAP (R21): after an exchange the head of the deck command queue is sent. -/
def execCommandGap (now : Tick) (s : State) : Host.Outcome State Fault Refusal :=
  let s := advanceTo now s
  .next
    (match s.deck.phase with
     | .gap => let sent := sendHead s; sent.setDeck { sent.deck with phase := .ready }
     | _ => s)

/-- The slot when its QUERY has been sent: its answer timer is started (R162). -/
def startAnswerTimer (s : State) : State :=
  match s.orders.slot with
  | .waiting q none =>
    s.setOrders { s.orders with slot := .waiting q (some (startTimer s.now s.now Config.queryAnswerSpan)) }
  | _ => s

/-- QUERY_SENT (R162): the QUERY on the deck line has ended. -/
def execQuerySent (now : Tick) (s : State) : Host.Outcome State Fault Refusal :=
  let s := advanceTo now s
  .next
    (if s.deck.queryOnLine then startAnswerTimer (s.setDeck { s.deck with queryOnLine := false }) else s)

end Sys2Proof.Machine
end

