-- ==== Sys2Proof/Machine/Expiries.lean ====
section
/-! DEFINITION. The meanings of the expiries: each is delivered when its timer runs and its span has elapsed, and the timer
stops with it (R43). An expiry of a timer that is stopped or not yet due does not happen: time moves on and nothing
else (notes/assumptions/2.md). -/

namespace Sys2Proof.Machine

/-- HEAT_LIMIT_EXPIRY (R82). -/
def execHeatLimitExpiry (now : Tick) (s : State) : Host.Outcome State Fault Refusal :=
  let s := advanceTo now s
  .next
    (if expired s.clock.heatLimit then
      let stopped := s.setClock { s.clock with heatLimit := none }
      if s.heat.state = .running then enterClosing stopped else stopped
     else s)

/-- RECALL_WINDOW_EXPIRY (R79): the starter leaves the priority set, which reads this timer (R16). -/
def execRecallWindowExpiry (now : Tick) (s : State) : Host.Outcome State Fault Refusal :=
  let s := advanceTo now s
  .next (if expired s.clock.recallWindow then s.setClock { s.clock with recallWindow := none } else s)

/-- The CLOCK telegram of a step count (table 1-9). -/
def clockTelegram (s : State) (step : Nat) : Telegram :=
  boardTelegramOf s kindClock (byteOf (heatCode s.heat.state) :: nat32 step)

/-- A step is due when the time since the start tick reaches the next multiple of the step's span (R45). -/
def stepDue (t : StepTimer) : Bool := (t.count + 1) * Config.clockStepSpan ≤ t.elapsed

/-- Deliver a clock step: the count increments, and in RUNNING and CLOSING a CLOCK is offered (R45, R87). -/
def deliverStep (t : StepTimer) (s : State) : State :=
  let stepped := s.setClock { s.clock with clockStep := some { t with count := t.count + 1 } }
  if s.heat.state = .running ∨ s.heat.state = .closing then offer (clockTelegram stepped (t.count + 1)) stepped
  else stepped

/-- CLOCK_STEP_EXPIRY (R87). -/
def execClockStepExpiry (now : Tick) (s : State) : Host.Outcome State Fault Refusal :=
  let s := advanceTo now s
  .next
    (match s.clock.clockStep with
     | some t => if stepDue t then deliverStep t s else s
     | none => s)

/-- BUTTON_WINDOW_EXPIRY (R85). -/
def execButtonWindowExpiry (now : Tick) (s : State) : Host.Outcome State Fault Refusal :=
  let s := advanceTo now s
  .next
    (if expired s.clock.buttonWindow then
      let stopped := s.setClock { s.clock with buttonWindow := none }
      if s.heat.state = .closing then enterClosed stopped else stopped
     else s)

/-- RESULT_HOLD_EXPIRY (R69): the pending swap is applied and its flag cleared. -/
def execResultHoldExpiry (now : Tick) (s : State) : Host.Outcome State Fault Refusal :=
  let s := advanceTo now s
  .next
    (if expired s.clock.resultHold then
      let stopped := s.setClock { s.clock with resultHold := none }
      if s.banks.pendingSwap then clearPendingSwap (swapBanks stopped) else stopped
     else s)

/-- CLAIM_EXPIRY (R153): the claim is no longer live, and the handover timer is stopped. -/
def execClaimExpiry (now : Tick) (s : State) : Host.Outcome State Fault Refusal :=
  let s := advanceTo now s
  .next (if expired s.orders.claim then dropClaim s else s)

/-- HANDOVER_EXPIRY (R154): ownership passes to the claimant. -/
def execHandoverExpiry (now : Tick) (s : State) : Host.Outcome State Fault Refusal :=
  let s := advanceTo now s
  .next
    (if expired s.orders.handover then
      if s.orders.claim.isSome ∧ s.orders.chain.isNone then passOwnership (otherSide s.orders.owner) s
      else setHandover none s
     else s)

/-- HOME_EXPIRY (R156): ownership returns to CONSOLE. -/
def execHomeExpiry (now : Tick) (s : State) : Host.Outcome State Fault Refusal :=
  let s := advanceTo now s
  .next (if expired s.orders.home then passOwnership .console s else s)

/-- CHAIN_GAP_EXPIRY (R159): the chain is aborted and CHAIN_ABORT raised. -/
def execChainGapExpiry (now : Tick) (s : State) : Host.Outcome State Fault Refusal :=
  let s := advanceTo now s
  .next (if expired (s.orders.chain.map fun c => c.gap) then raise .chainAbort (closeChain s) else s)

/-- QUERY_ANSWER_EXPIRY (R162): the slot becomes HELD with the result NORESP. -/
def execQueryAnswerExpiry (now : Tick) (s : State) : Host.Outcome State Fault Refusal :=
  let s := advanceTo now s
  .next
    (match s.orders.slot with
     | .waiting q answer => if expired answer then holdResult q .noResponse s else s
     | _ => s)

/-- COLLECTION_EXPIRY (R163): the result is discarded and the slot becomes FREE. -/
def execCollectionExpiry (now : Tick) (s : State) : Host.Outcome State Fault Refusal :=
  let s := advanceTo now s
  .next
    (match s.orders.slot with
     | .held _ _ collection => if timerDue collection then s.setOrders { s.orders with slot := .free } else s
     | _ => s)

/-- One phase step of the three patterns, and the evaluation of the lanes whose pattern has an edge or its period end
(R143, R144). -/
def stepLamps (s : State) : State :=
  let patterns := s.lamps.patterns
  evaluateAssigned (fun p => stepEvaluates patterns[p])
    (s.setLamps { s.lamps with
      patterns := mapAll patterns stepPattern, sincePhase := s.lamps.sincePhase - Config.lampPhaseSpan })

/-- LAMP_PHASE_STEP (R143): due every 10,000 µs from the release of the RESET input. -/
def execLampPhaseStep (now : Tick) (s : State) : Host.Outcome State Fault Refusal :=
  let s := advanceTo now s
  .next (if Config.lampPhaseSpan ≤ s.lamps.sincePhase then stepLamps s else s)

end Sys2Proof.Machine
end

