-- ==== Sys2Proof/Machine/ReadOrders.lean ====
section
/-! DEFINITION. The meanings of the console's orders that do not need the control channel (table 10-1). -/

namespace Sys2Proof.Machine

/-- STAT from the console (R151). -/
def execStat (now : Tick) (src tag : Byte) (body : List Byte) (s : State) : Host.Outcome State Fault Refusal :=
  .next (consoleOrder src .stat tag body orderStat (advanceTo now s))

/-- LANE from the console (R151). -/
def execLane (now : Tick) (src tag : Byte) (body : List Byte) (s : State) : Host.Outcome State Fault Refusal :=
  .next (consoleOrder src .lane tag body (orderLane body) (advanceTo now s))

/-- TREAD from the console (R151, R63). -/
def execTread (now : Tick) (src tag : Byte) (body : List Byte) (s : State) : Host.Outcome State Fault Refusal :=
  .next (consoleOrder src .tread tag body (orderTread body) (advanceTo now s))

/-- TREAD-TALLY from the console (R173). -/
def execTreadTally (now : Tick) (src tag : Byte) (body : List Byte) (s : State) : Host.Outcome State Fault Refusal :=
  .next (consoleOrder src .treadTally tag body (orderTreadTally body) (advanceTo now s))

/-- MAILR from the console (R164). -/
def execMailr (now : Tick) (src tag : Byte) (body : List Byte) (s : State) : Host.Outcome State Fault Refusal :=
  .next (consoleOrder src .mailr tag body (orderMailr body) (advanceTo now s))

/-- MAILW from the console (R164). -/
def execMailw (now : Tick) (src tag : Byte) (body : List Byte) (s : State) : Host.Outcome State Fault Refusal :=
  .next (consoleOrder src .mailw tag body (orderMailw .console body) (advanceTo now s))

/-- NCLR from the console (R166). -/
def execNclr (now : Tick) (src tag : Byte) (body : List Byte) (s : State) : Host.Outcome State Fault Refusal :=
  .next (consoleOrder src .nclr tag body (orderNclr .console body) (advanceTo now s))

/-- NQRY from the console (R161, R163). -/
def execNqry (now : Tick) (src tag : Byte) (body : List Byte) (s : State) : Host.Outcome State Fault Refusal :=
  .next (consoleOrder src .nqry tag body (orderNqry body) (advanceTo now s))

/-- RELH from the console (R176). -/
def execRelh (now : Tick) (src tag : Byte) (body : List Byte) (s : State) : Host.Outcome State Fault Refusal :=
  .next (consoleOrder src .relh tag body orderRelh (advanceTo now s))

/-- CREL from the console (R155). -/
def execCrel (now : Tick) (src tag : Byte) (body : List Byte) (s : State) : Host.Outcome State Fault Refusal :=
  .next (consoleOrder src .crel tag body (orderCrel .console) (advanceTo now s))

end Sys2Proof.Machine
end

