-- ==== Sys2Proof/Machine/Startup.lean ====
section
/-! DEFINITION. The meanings of POWER_ON, LOAD_DONE and SAVE_DONE (chapter 12). -/

namespace Sys2Proof.Machine

/-- POWER_ON (R175, R176, R178): every block takes its POWER-ON values, the strap is read, and the memory keeps what
had reached it. The commands that wait stay waiting. -/
def execPowerOn (strapHigh : Bool) (written : Nat) (s : State) : Host.Outcome State Fault Refusal :=
  .next (powerOnState strapHigh (memoryAtPowerOn written s.loader) s.pending)

/-- LOAD_DONE (R175, R176): the load in progress ends. -/
def execLoadDone (now : Tick) (answers : Bool) (s : State) : Host.Outcome State Fault Refusal :=
  let s := advanceTo now s
  .next (if s.loader.load = .loading then finishLoad answers s else s)

/-- SAVE_DONE (R177): the write in progress ends. -/
def execSaveDone (now : Tick) (how : SaveEnd) (s : State) : Host.Outcome State Fault Refusal :=
  let s := advanceTo now s
  .next
    (match s.loader.save with
     | .writing image => finishSave how image s
     | .idle => s)

end Sys2Proof.Machine
end

