-- ==== Sys2Proof/Machine/Dispatch.lean ====
section
/-! DEFINITION. Each command's meaning. -/

namespace Sys2Proof.Machine

/-- The effect of a command on everything but the queue of waiting commands. -/
def exec (i : Instr) (s : State) : Host.Outcome State Fault Refusal :=
  match i with
  | .powerOn strapHigh written => Sys2Proof.Machine.execPowerOn strapHigh written s
  | .loadDone now answers => Sys2Proof.Machine.execLoadDone now answers s
  | .saveDone now how => Sys2Proof.Machine.execSaveDone now how s
  | .poll now => Sys2Proof.Machine.execPoll now s
  | .emptyRound now => Sys2Proof.Machine.execEmptyRound now s
  | .deckAnswer now bytes => Sys2Proof.Machine.execDeckAnswer now bytes s
  | .answerWindowMiss now => Sys2Proof.Machine.execAnswerWindowMiss now s
  | .deckBadTelegram now => Sys2Proof.Machine.execDeckBadTelegram now s
  | .commandGap now => Sys2Proof.Machine.execCommandGap now s
  | .querySent now => Sys2Proof.Machine.execQuerySent now s
  | .boardBadTelegram now => Sys2Proof.Machine.execBoardBadTelegram now s
  | .shortOrder now source payload => Sys2Proof.Machine.execShortOrder now source payload s
  | .boardNonOrder now source kind payload => Sys2Proof.Machine.execBoardNonOrder now source kind payload s
  | .passThrough now dest source kind payload => Sys2Proof.Machine.execPassThrough now dest source kind payload s
  | .boardSend now => Sys2Proof.Machine.execBoardSend now s
  | .orderUnknownCode now source tag code body => Sys2Proof.Machine.execOrderUnknownCode now source tag code body s
  | .stat now source tag body => Sys2Proof.Machine.execStat now source tag body s
  | .lane now source tag body => Sys2Proof.Machine.execLane now source tag body s
  | .tread now source tag body => Sys2Proof.Machine.execTread now source tag body s
  | .treadTally now source tag body => Sys2Proof.Machine.execTreadTally now source tag body s
  | .mailr now source tag body => Sys2Proof.Machine.execMailr now source tag body s
  | .mailw now source tag body => Sys2Proof.Machine.execMailw now source tag body s
  | .nclr now source tag body => Sys2Proof.Machine.execNclr now source tag body s
  | .nqry now source tag body => Sys2Proof.Machine.execNqry now source tag body s
  | .relh now source tag body => Sys2Proof.Machine.execRelh now source tag body s
  | .crel now source tag body => Sys2Proof.Machine.execCrel now source tag body s
  | .tloadFirst now source tag body => Sys2Proof.Machine.execTloadFirst now source tag body s
  | .tloadContinuation now source tag body => Sys2Proof.Machine.execTloadContinuation now source tag body s
  | .arm now source tag body => Sys2Proof.Machine.execArm now source tag body s
  | .endh now source tag body => Sys2Proof.Machine.execEndh now source tag body s
  | .abort now source tag body => Sys2Proof.Machine.execAbort now source tag body s
  | .clear now source tag body => Sys2Proof.Machine.execClear now source tag body s
  | .mark now source tag body => Sys2Proof.Machine.execMark now source tag body s
  | .src now source tag body => Sys2Proof.Machine.execSrc now source tag body s
  | .tset now source tag body => Sys2Proof.Machine.execTset now source tag body s
  | .tctlConfigure now source tag body => Sys2Proof.Machine.execTctlConfigure now source tag body s
  | .tctlFreeze now source tag body => Sys2Proof.Machine.execTctlFreeze now source tag body s
  | .tctlUnfreeze now source tag body => Sys2Proof.Machine.execTctlUnfreeze now source tag body s
  | .tctlZero now source tag body => Sys2Proof.Machine.execTctlZero now source tag body s
  | .tctlClearOverflow now source tag body => Sys2Proof.Machine.execTctlClearOverflow now source tag body s
  | .tctlSetMode now source tag body => Sys2Proof.Machine.execTctlSetMode now source tag body s
  | .tctlUnknownAction now source tag body => Sys2Proof.Machine.execTctlUnknownAction now source tag body s
  | .save now source tag body => Sys2Proof.Machine.execSave now source tag body s
  | .trst now source tag body => Sys2Proof.Machine.execTrst now source tag body s
  | .heatLimitExpiry now => Sys2Proof.Machine.execHeatLimitExpiry now s
  | .recallWindowExpiry now => Sys2Proof.Machine.execRecallWindowExpiry now s
  | .clockStepExpiry now => Sys2Proof.Machine.execClockStepExpiry now s
  | .buttonWindowExpiry now => Sys2Proof.Machine.execButtonWindowExpiry now s
  | .resultHoldExpiry now => Sys2Proof.Machine.execResultHoldExpiry now s
  | .claimExpiry now => Sys2Proof.Machine.execClaimExpiry now s
  | .handoverExpiry now => Sys2Proof.Machine.execHandoverExpiry now s
  | .homeExpiry now => Sys2Proof.Machine.execHomeExpiry now s
  | .chainGapExpiry now => Sys2Proof.Machine.execChainGapExpiry now s
  | .queryAnswerExpiry now => Sys2Proof.Machine.execQueryAnswerExpiry now s
  | .collectionExpiry now => Sys2Proof.Machine.execCollectionExpiry now s
  | .lampPhaseStep now => Sys2Proof.Machine.execLampPhaseStep now s

end Sys2Proof.Machine
end

