-- ==== Sys2Proof/Safety.lean ====
section
/-! DEFINITION. What the statements about the TC-10 speak of: when an order is served and how it is answered, what an
announcement may change, and the laws that every step keeps. -/

namespace Sys2Proof.Machine

/-! ### Commands -/

/-- The tick a command is taken at; POWER_ON brings none, since it starts the counter. -/
def commandTick : Instr → Option Tick
  | .powerOn _ _ => none
  | .loadDone now _ | .saveDone now _ | .deckAnswer now _ => some now
  | .poll now | .emptyRound now | .answerWindowMiss now | .deckBadTelegram now | .commandGap now | .querySent now
  | .boardBadTelegram now | .boardSend now => some now
  | .shortOrder now _ _ | .boardNonOrder now _ _ _ | .passThrough now _ _ _ _ | .orderUnknownCode now _ _ _ _ => some now
  | .stat now _ _ _ | .lane now _ _ _ | .tread now _ _ _ | .treadTally now _ _ _ | .mailr now _ _ _ | .mailw now _ _ _
  | .nclr now _ _ _ | .nqry now _ _ _ | .relh now _ _ _ | .crel now _ _ _ => some now
  | .tloadFirst now _ _ _ | .tloadContinuation now _ _ _ | .arm now _ _ _ | .endh now _ _ _ | .abort now _ _ _
  | .clear now _ _ _ | .mark now _ _ _ | .src now _ _ _ | .tset now _ _ _ | .tctlConfigure now _ _ _
  | .tctlFreeze now _ _ _ | .tctlUnfreeze now _ _ _ | .tctlZero now _ _ _ | .tctlClearOverflow now _ _ _
  | .tctlSetMode now _ _ _ | .tctlUnknownAction now _ _ _ | .save now _ _ _ | .trst now _ _ _ => some now
  | .heatLimitExpiry now | .recallWindowExpiry now | .clockStepExpiry now | .buttonWindowExpiry now
  | .resultHoldExpiry now | .claimExpiry now | .handoverExpiry now | .homeExpiry now | .chainGapExpiry now
  | .queryAnswerExpiry now | .collectionExpiry now | .lampPhaseStep now => some now

/-- The tick counter's value once a command has been taken: its own tick, and 0 after POWER_ON (R41). -/
def tickAfter (c : Instr) : Tick := (commandTick c).getD 0

/-! ### Serving and answering orders -/

/-- The module serves orders: the load is DONE and HOLD has ended (R150, test 2). -/
def Serving (s : State) : Prop := s.loader.load = .done ∧ s.loader.hold = false

/-- The console's channel-needing orders are served: the module serves orders and CONSOLE owns the channel. -/
def ConsoleServed (s : State) : Prop := Serving s ∧ s.orders.owner = .console

/-- The board queue makes a place for an answer, and then holds `room` (R137). -/
def PlaceMade (s : State) (room : List Telegram) : Prop := makeRoom s.board.reserved s.board.queue = some room

/-- The state with a board queue that ends in an answer which has filled its reservation (R137). -/
def answered (s : State) (room : List Telegram) (response : Telegram) : State :=
  s.setBoard { s.board with queue := room ++ [response], reserved := false }

/-- The RESPONSE to a console order (tables 1-4, 10-3). -/
def response (s : State) (src tag : Byte) (code : OrderCode) (status : Status) (reason : Nat) (body : List Byte) :
    Telegram :=
  ⟨src, s.settings.station, kindResponse,
    [byteOf (orderNumber code), tag, byteOf (statusNumber status), byteOf reason] ++ body⟩

/-- A timer started at the tick it is referred to. -/
def freshTimer (now : Tick) (span : Nat) : Timer := ⟨now, span, 0⟩

/-- The state in which a channel-needing order of its owner is carried out at tick `now`: time has moved on, and the
handover and home timers have started again where R154 and R156 say so. -/
def ownerTurn (now : Tick) (s : State) : State := noteOwnerOrder (advanceTo now s)

/-- The state in which an owner's one-telegram load chain has opened and closed again at tick `now`: no chain is open, the
home timer is stopped, and the handover timer runs from `now` when a claim is live (R156, R159). -/
def loadedTurn (now : Tick) (s : State) : State :=
  let u := ownerTurn now s
  u.setOrders { u.orders with
    chain := none, home := none
    handover := if s.orders.claim.isSome then some (freshTimer now 50000) else none }

/-! ### Frames -/

/-- `t` differs from `s` in announcements alone: the telegrams of the board queue and its reservation, the statuses of
the notices, the counts and overflow flags of the tallies, and the frozen mark. -/
structure OnlyAnnounces (s t : State) : Prop where
  clock : t.clock = s.clock
  nodes : t.nodes = s.nodes
  filters : t.filters = s.filters
  deck : t.deck = s.deck
  banks : t.banks = s.banks
  heat : t.heat = s.heat
  lanes : t.lanes = s.lanes
  results : t.results = s.results
  lamps : t.lamps = s.lamps
  settings : t.settings = s.settings
  loader : t.loader = s.loader
  pending : t.pending = s.pending
  line : t.board.line = s.board.line
  busy : t.board.busy = s.board.busy
  orders : t.orders = { s.orders with notices := t.orders.notices }
  notices : ∀ k : Fin 12, t.orders.notices[k] = { s.orders.notices[k] with status := t.orders.notices[k].status }
  counters : ∀ i : Fin 8, t.tally.counters[i] =
    { s.tally.counters[i] with count := t.tally.counters[i].count, overflow := t.tally.counters[i].overflow }
  mode : t.tally.freezeOnOverflow = s.tally.freezeOnOverflow

/-! ### The bytes of the board telegrams (tables 1-6 to 1-11) -/

/-- A telegram of the module's own on the board line (R3). -/
def boardSent (s : State) (kind : Byte) (payload : List Byte) : Telegram := ⟨127, s.settings.station, kind, payload⟩

/-- The byte of a place: 0 for none. -/
def placeCode (place : Option Nat) : Byte := byteOf (place.getD 0)

/-- A time in units of `unit` µs, rounded down: four bytes, 0 when it is absent (R51). -/
def timeIn (unit : Int) (time : Option Int) : List Byte :=
  int32 (match time with
    | some t => t / unit
    | none => 0)

/-- A reaction in thousandths, rounded toward zero, held within -999 to 9999: two bytes, 0 when it is absent (R52). -/
def reactionSent (reaction : Option Int) : List Byte :=
  int16 (match reaction with
    | some t => max (-999) (min 9999 (t.tdiv 1000))
    | none => 0)

/-- The SPLIT of an accepted touch (table 1-6). -/
def splitSent (s : State) (lane : Lane) (length : Nat) (time : Int) (late : Bool) : Telegram :=
  boardSent s 49 ([byteOf lane.val, byteOf length, flagByte [true, late], 0] ++ timeIn 1000 (some time))

/-- The FINISH of a lane record (table 1-7, R118). -/
def finishSent (s : State) (lane : Lane) : Telegram :=
  let r := s.lanes[lane]
  boardSent s 50 ([byteOf lane.val, placeCode r.place, flagByte [r.reaction.isSome, r.early, r.late, r.dq], 0]
    ++ be16 r.competitor ++ reactionSent r.reaction ++ timeIn 1000 r.padFinish)

/-- The PLACE of a lane record (table 1-10, R118). -/
def placeSent (s : State) (lane : Lane) : Telegram :=
  let r := s.lanes[lane]
  boardSent s 51 ([byteOf lane.val, placeCode r.place, 0, 0] ++ timeIn 1000 r.padFinish)

/-- The RESULT of a lane record (table 1-8, R122). -/
def resultSent (s : State) (lane : Lane) : Telegram :=
  let r := s.lanes[lane]
  let source : Byte := match r.source with
    | .none => 0
    | .pad => 1
    | .backup => 2
  let verdict (k : Nat) : Byte := match r.exchanges.find? fun x => x.number == k with
    | none => 0
    | some x => match x.verdict with
      | .good => 1
      | .early => 2
      | .notJudged => 3
  boardSent s 52 ([byteOf lane.val, placeCode r.place, source,
      flagByte [r.reaction.isSome, r.early, r.late, r.dq, r.discrepant, r.official.isSome], byteOf s.results.revision,
      verdict 1, verdict 2, verdict 3]
    ++ be16 r.competitor ++ timeIn 10000 r.official ++ reactionSent r.reaction)

/-- The HEAT of a state: its heat state, and the numbers of the active bank's heat, 0 and 0 when it is EMPTY (table 1-10,
R73). -/
def heatSent (s : State) : Telegram :=
  let state : Byte := match s.heat.state with
    | .idle => 0
    | .armed => 1
    | .marks => 2
    | .running => 3
    | .closing => 4
    | .closed => 5
  boardSent s 53 (state :: match s.activeBank.head with
    | none => [0, 0, 0]
    | some h => nat16 h.event ++ [byteOf h.heat])

/-- The NOTICE of a kind, when its raising sends one: its status was clear, and it is enabled toward BOARD (table 1-11,
R165). `number` is the kind's number. -/
def noticeSent (s : State) (k : NoticeKind) (number : Byte) : List Telegram :=
  let n := s.notice k
  if n.status = false ∧ n.enabled = true ∧ n.direction = .board then [boardSent s 55 [number]] else []

/-- Telegrams that announce a change of heat state on an uncrowded board queue: HEAT and, when HEAT_CHANGE rises toward
BOARD, its NOTICE (R73, R165). `s` is the state after the change. -/
def heatAnnouncement (s : State) : List Telegram := heatSent s :: noticeSent s .heatChange 6

/-- No reservation stands and the board queue has `n` places free (R134, R137). -/
def PlacesFree (n : Nat) (s : State) : Prop := s.board.reserved = false ∧ s.board.queue.length + n ≤ Config.boardPlaces

/-! ### Laws that every step keeps -/

/-- The board queue holds at most 32 telegrams and no two SPLITs of one lane, and no reservation outlasts its order
(R134, R137). -/
def BoardLaw (s : State) : Prop :=
  s.board.reserved = false ∧ s.board.queue.length ≤ 32
    ∧ ((s.board.queue.filter fun t => t.kind == kindSplit).map fun t => t.payload.head?).Nodup

/-- Is the heat in one of the states in which the start tick is present (R72)? -/
def Started (h : HeatState) : Prop := h = .running ∨ h = .closing ∨ h = .closed

/-- The heat states in which an occupied lane can be in a lane state (tables 5-1, 6-2). -/
def LaneStateFits (h : HeatState) : LaneState → Prop
  | .vacant => True
  | .waiting => h = .armed ∨ h = .marks
  | .swimming => h = .running ∨ h = .closing
  | .finished => Started h
  | .noTime => h = .closed

/-- The start tick, the lane states, the heat timers and the pending swap agree with the heat state (R68 to R72,
tables 5-1, 6-2). -/
def RaceLaw (s : State) : Prop :=
  (s.heat.startTick.isSome = true ↔ Started s.heat.state)
    ∧ (∀ lane : Lane, LaneStateFits s.heat.state s.lanes[lane].state)
    ∧ (s.clock.heatLimit.isSome = true → s.heat.state = .running)
    ∧ (s.clock.recallWindow.isSome = true → s.heat.state = .running)
    ∧ (s.clock.clockStep.isSome = true → s.heat.state = .running ∨ s.heat.state = .closing)
    ∧ (s.clock.buttonWindow.isSome = true → s.heat.state = .closing)
    ∧ (s.clock.resultHold.isSome = true → s.heat.state = .closed ∧ s.banks.pendingSwap = true)
    ∧ (s.banks.pendingSwap = true → s.heat.state ≠ .idle)

/-- A node entry in the form R22 to R24 store it. -/
abbrev StoredForm (e : NodeEntry) : Prop :=
  2 ≤ e.station.toNat ∧ e.station.toNat ≤ 126 ∧ e.latency ≤ 2000
    ∧ (e.lane.isSome = true ↔ e.kind = .block ∨ e.kind = .pad ∨ e.kind = .button)
    ∧ (e.kind = .block → e.poolEnd = some .start)
    ∧ (e.kind = .pad ∨ e.kind = .button → e.poolEnd.isSome = true)
    ∧ (e.kind ≠ .block → e.kind ≠ .pad → e.kind ≠ .button → e.poolEnd = none)
    ∧ (e.kind = .button → e.position = some 1 ∨ e.position = some 2 ∨ e.position = some 3)
    ∧ (e.kind ≠ .button → e.position = none)
    ∧ 1 ≤ e.threshold ∧ e.threshold ≤ 255
    ∧ (e.kind ≠ .pad → e.threshold = 1 ∧ e.mode = .edge)

/-- Every loaded node entry is in its stored form, no two hold one station, none holds the module's own, and the module's
own station is 1 to 126 (R22, R23, R160). -/
def NodeLaw (s : State) : Prop :=
  (∀ (i : Fin 64) (n : Node), s.nodes[i] = some n → StoredForm n.entry ∧ n.entry.station ≠ s.settings.station)
    ∧ (∀ (i j : Fin 64) (n m : Node), s.nodes[i] = some n → s.nodes[j] = some m →
        n.entry.station = m.entry.station → i = j)
    ∧ isStation s.settings.station = true

/-- The handover timer runs exactly while a claim is live and no load chain is open, the home timer exactly while PANEL
owns the channel in HOME mode and no load chain is open, and during the load the channel rests with CONSOLE (R152 to
R156, R159). -/
def ChannelLaw (s : State) : Prop :=
  (s.orders.handover.isSome = true ↔ s.orders.claim.isSome = true ∧ s.orders.chain = none)
    ∧ (s.orders.home.isSome = true ↔ s.orders.owner = .panel ∧ s.settings.mode = .home ∧ s.orders.chain = none)
    ∧ (s.loader.load = .loading → s.orders.owner = .console ∧ s.orders.claim = none ∧ s.orders.chain = none)

/-- QUERY telegrams between the deck command queue and the end of their transmission. -/
def queriesUnderWay (s : State) : Nat :=
  (s.deck.queue.filter fun e => e.origin == .query).length + if s.deck.queryOnLine then 1 else 0

/-- The deck command queue holds at most four pass-through telegrams, at most one RESPONSE to the panel, no two LAMPs for
one station, and each LAMP of a lane for the station recorded for that lane; a QUERY is under way only for the slot that
waits for it, and at most one is (R19, R146, R161). -/
def DeckLaw (s : State) : Prop :=
  (s.deck.queue.filter fun e => e.origin == .passThrough).length ≤ 4
    ∧ ((s.deck.queue.filter fun e => allLanes.any fun lane => isLampOf lane e).map fun e => e.telegram.dest).Nodup
    ∧ (∀ (e : DeckEntry) (lane : Lane), e ∈ s.deck.queue → e.origin = .lamp lane →
        s.lamps.records[lane].recorded = some e.telegram.dest)
    ∧ (s.deck.queue.filter fun e => e.origin == .response).length ≤ 1
    ∧ queriesUnderWay s ≤ 1
    ∧ (queriesUnderWay s = 1 → ∃ q, s.orders.slot = .waiting q none)

/-- Each lane's split list holds exactly as many splits as its length count, numbered from 1 on, and it holds at most one
sample of a button position (R97, R111). -/
def SplitLaw (s : State) : Prop :=
  ∀ lane : Lane,
    s.lanes[lane].splits.map (fun x => x.length) = List.range' 1 s.lanes[lane].lengthCount
      ∧ (s.lanes[lane].samples.map fun x => x.position).Nodup

/-- The configuration memory is in its canonical form. -/
def MemoryLaw (s : State) : Prop := s.loader.memory.wf

/-- Every step from a state that keeps a law leads to one that keeps it. -/
def KeptByEveryStep (law : State → Prop) : Prop := ∀ s t : State, law s → step s = .next t → law t

/-! ### The poll schedule -/

/-- The entry at an index is the first loaded entry in table order of a kind: the starter, or the panel (R27). -/
def IsFirst (s : State) (kind : NodeKind) (i : Fin 64) : Prop :=
  (∃ n, s.nodes[i] = some n ∧ n.entry.kind = kind)
    ∧ ∀ (j : Fin 64) (m : Node), j < i → s.nodes[j] = some m → m.entry.kind ≠ kind

/-- The entry at an index is the panel, and a RESPONSE to a panel order is queued: it is not polled (R17). -/
def PanelWaiting (s : State) (i : Fin 64) : Prop :=
  IsFirst s .panel i ∧ ∃ e ∈ s.deck.queue, e.origin = .response

/-- The entry at an index can be given a priority visit: it is a member of the priority set and not the panel while a
RESPONSE is queued (R15 to R17). -/
def PriorityMember (s : State) (i : Fin 64) : Prop :=
  (∃ n, s.nodes[i] = some n ∧ n.run.presence ≠ .absent
    ∧ (n.entry.pollClass = .priority ∨ n.run.boost = true
      ∨ (IsFirst s .starter i
        ∧ (s.heat.state = .armed ∨ s.heat.state = .marks
          ∨ (s.heat.state = .running ∧ ∃ w, s.clock.recallWindow = some w ∧ w.elapsed < w.span)))))
    ∧ ¬ PanelWaiting s i

/-- The entry rests: it is ABSENT with a rest count below 15 (R14). -/
def Resting (s : State) (i : Fin 64) : Prop :=
  ∃ n, s.nodes[i] = some n ∧ n.run.presence = .absent ∧ n.run.restCount < 15

/-- The normal pointer passes an index without a visit: the entry is empty, the skipped panel, or resting (R12, R14,
R17). -/
def PassedOver (s : State) (i : Fin 64) : Prop := s.nodes[i] = none ∨ PanelWaiting s i ∨ Resting s i

/-- `after` is an entry that the normal pointer has passed without a visit: the rest count of a resting one that is not
the skipped panel has incremented, and nothing else has changed (R14, R17). -/
def PassedEntry (s : State) (i : Fin 64) (after : Option Node) : Prop :=
  (¬ Resting s i ∨ PanelWaiting s i → after = s.nodes[i])
    ∧ ∀ n, s.nodes[i] = some n → Resting s i → ¬ PanelWaiting s i →
        after = some { n with run := { n.run with restCount := n.run.restCount + 1 } }

/-- The Deck Poller may choose its next exchange at tick `now`: the gap of the exchange before is over, or is skipped on an
empty queue, or the quiet behind an empty round is over (R12, R21). -/
def Chooses (now : Tick) (s : State) : Prop :=
  s.deck.phase = .ready ∨ (s.deck.phase = .gap ∧ s.deck.queue = [])
    ∨ ∃ quiet, (advanceTo now s).deck.phase = .quiet quiet ∧ quiet.span ≤ quiet.elapsed

/-- The next round begins, at entry 0, on the node table of `r`: that of `s` when nothing of a round has been taken yet;
or, when the round in hand has visited an entry and passes over all that is left of it, the table that this leaves
(R12, R14). -/
def RoundBegins (s r : State) : Prop :=
  (s.deck.normalPointer = 0 ∧ s.deck.roundVisited = false ∧ r = s)
    ∨ (s.deck.roundVisited = true ∧ ∃ nodes : NodeTable, r = s.setNodes nodes
      ∧ ∀ j : Fin 64, (j < s.deck.normalPointer → nodes[j] = s.nodes[j])
        ∧ (s.deck.normalPointer ≤ j → PassedOver s j ∧ PassedEntry s j nodes[j]))

/-- The POLL of a station (R7, table 1-2). -/
def PollOf (s : State) (i : Fin 64) (station : Byte) (poll : Telegram) : Prop :=
  poll.dest = station ∧ poll.src = s.settings.station ∧ poll.kind = 16
    ∧ (¬ IsFirst s .panel i → poll.payload = [])
    ∧ (IsFirst s .panel i → ∃ high low, poll.payload = [high, low]
        ∧ ∀ b : Nat, b < 16 → (high ++ low).getLsbD b =
            if h : b < 12 then
              s.orders.notices[b].status && s.orders.notices[b].enabled && s.orders.notices[b].direction == .panel
            else false)

/-- The Deck Poller when the head of the deck command queue, if there is one, goes onto the line in a gap (R21). A
pass-through telegram goes out with the module's station as source (R3). -/
def gapSent (s : State) (phase : DeckPhase) : DeckPoller :=
  match s.deck.queue with
  | [] => { s.deck with phase := phase }
  | e :: rest =>
    { s.deck with
      phase := phase, queue := rest
      line := some (if e.origin = .passThrough then { e.telegram with src := s.settings.station } else e.telegram)
      queryOnLine := s.deck.queryOnLine || e.origin == .query }

/-- The lamp records when the head of the deck command queue, if there is one, goes onto the line: a LAMP sets the line
state of its lane (R145). -/
def LampNoted (s : State) (records : Vector LampRecord 10) : Prop :=
  ∀ lane : Lane, records[lane] =
    match s.deck.queue.head? with
    | some e =>
      if e.origin = .lamp lane then { s.lamps.records[lane] with lineState := e.telegram.payload == [1] }
      else s.lamps.records[lane]
    | none => s.lamps.records[lane]

/-! ### Answers of the station polled -/

/-- The entry at an index counts as OTHER: it is loaded so, or it is a STARTER or PANEL entry that is not the first of its
kind (R27). -/
def CountsAsOther (s : State) (i : Fin 64) (n : Node) : Prop :=
  n.entry.kind = .other ∨ ((n.entry.kind = .starter ∨ n.entry.kind = .panel) ∧ ¬ IsFirst s n.entry.kind i)

/-- An item code belongs to the effective kind of an entry (table 2-3). -/
def Belongs (s : State) (i : Fin 64) (n : Node) (code : ItemCode) : Prop :=
  code = .generic ∨ CountsAsOther s i n
    ∨ (n.entry.kind = .starter ∧ (code = .marks ∨ code = .start ∨ code = .recall))
    ∨ (n.entry.kind = .block ∧ code = .release) ∨ (n.entry.kind = .pad ∧ code = .contact)
    ∨ (n.entry.kind = .button ∧ code = .press)

/-- The bits of a station that the mask names are those of the value (R34, R169). -/
def StationAgrees (mask value station : Byte) : Prop :=
  ∀ b : Nat, b < 8 → mask.getLsbD b = true → station.getLsbD b = value.getLsbD b

/-- A loaded filter entry matches an item (R34). -/
def FilterMatches (f : FilterEntry) (station : Byte) (code : ItemCode) : Prop :=
  StationAgrees f.stationMask f.stationValue station ∧ f.items.getLsbD (itemNumber code - 1) = true

/-- No loaded filter entry matches an item, which takes its default action (R35). -/
def Unfiltered (s : State) (station : Byte) (code : ItemCode) : Prop :=
  ∀ (k : Fin 16) (f : FilterEntry), s.filters[k] = some f → ¬ FilterMatches f station code

/-- The first loaded filter entry that matches an item gives it its action (R34). -/
def FilterGives (s : State) (station : Byte) (code : ItemCode) (action : FilterAction) : Prop :=
  ∃ (k : Fin 16) (f : FilterEntry), s.filters[k] = some f ∧ FilterMatches f station code ∧ f.action = action
    ∧ ∀ (j : Fin 16) (g : FilterEntry), j < k → s.filters[j] = some g → ¬ FilterMatches g station code

/-- The bytes are a good REPORT of one item of a station to the module (R9, table 1-3). -/
def ReportOf (s : State) (station : Byte) (number age : Nat) (value : Byte) (bytes : List Byte) : Prop :=
  number ≤ 15 ∧ age ≤ 4095 ∧ ∃ spare, receive bytes = .good ⟨s.settings.station, station, kindReport,
    [byteOf (16 * number + age / 256), byteOf (age % 256), value, spare]⟩

/-- The answer awaited from the PRESENT station at index `i` arrives: a good REPORT of one item. -/
structure Reported (s : State) (bytes : List Byte) (i : Fin 64) (n : Node) (number age : Nat) (value : Byte) : Prop where
  node : s.nodes[i] = some n
  present : n.run.presence = .present
  awaited : ∃ window, s.deck.phase = .awaiting n.entry.station window
  report : ReportOf s n.entry.station number age value bytes
  table : NodeLaw s

/-- The one item reported goes on to judging: the filter table gives it COPY when `copied` and CONSUME when not, or leaves
it the CONSUME of its kind (R34, R35, R37). -/
structure SoleItem (s : State) (bytes : List Byte) (i : Fin 64) (n : Node) (code : ItemCode) (age : Nat) (value : Byte)
    (copied : Bool) : Prop where
  reported : Reported s bytes i n (itemNumber code) age value
  judged : FilterGives s n.entry.station code (if copied then .copy else .consume)
    ∨ (copied = false ∧ Unfiltered s n.entry.station code)
  quiet : age = 4095 → tallyAlarms s.tally .lateStamp n.entry.lane (some n.entry.station) = false

/-- The state when a good answer of the station at `i` has ended its exchange, with nothing taken of what it carries:
PRESENT, no miss, no rest (R10, R11). -/
def heard (now : Tick) (s : State) (i : Fin 64) (n : Node) : State :=
  let u := advanceTo now s
  (u.setNodes (s.nodes.set i
    (some { n with run := { n.run with presence := .present, missCount := 0, restCount := 0 } }))).setDeck
    { u.deck with phase := .gap }

/-- The state when LATE_STAMP has been counted for an item of a saturated age (R38). -/
def stamped (n : Node) (age : Nat) (s : State) : State :=
  if age = 4095 then s.setTally (tallyAfter s.tally .lateStamp n.entry.lane (some n.entry.station)) else s

/-- The EVENT of an item that arrives at tick `now` (table 1-10, R39). -/
def eventSent (now : Tick) (s : State) (n : Node) (code : ItemCode) (age : Nat) (value : Byte) : Telegram :=
  boardSent s 54 ([n.entry.station, byteOf (itemNumber code), value, 0] ++ nat16 age ++ be32 now
    ++ be32 (eventTick now n.entry.latency age))

/-- The state when the one item has come to judging: the answer heard, LATE_STAMP counted, and the EVENT of an item that is
copied queued (R37 to R39). -/
def handed (now : Tick) (s : State) (i : Fin 64) (n : Node) (code : ItemCode) (age : Nat) (value : Byte)
    (copied : Bool) : State :=
  let h := stamped n age (heard now s i n)
  if copied then h.setBoard { h.board with queue := h.board.queue ++ [eventSent now s n code age value] } else h

/-- The answer awaited from the PRESENT panel arrives: a good ORDER, with no RESPONSE to an earlier one queued (R9,
R17). -/
structure PanelSends (s : State) (bytes : List Byte) (i : Fin 64) (n : Node) (code tag : Byte) (body : List Byte) :
    Prop where
  node : s.nodes[i] = some n
  first : IsFirst s .panel i
  present : n.run.presence = .present
  awaited : ∃ window, s.deck.phase = .awaiting n.entry.station window
  received : ∃ x y, receive bytes = .good ⟨s.settings.station, n.entry.station, kindOrder, [code, tag, x, y] ++ body⟩
  unanswered : ∀ e ∈ s.deck.queue, e.origin ≠ .response
  table : NodeLaw s

/-- The state with the RESPONSE to an order of the panel at the tail of the deck command queue (R10, R19). -/
def panelAnswered (t : State) (n : Node) (payload : List Byte) : State :=
  t.setDeck { t.deck with
    queue := t.deck.queue ++ [⟨.response, ⟨n.entry.station, t.settings.station, kindResponse, payload⟩⟩] }

/-- The state with one lane record changed. -/
def withLane (s : State) (lane : Lane) (r : LaneRecord) : State := s.setLanes (s.lanes.set lane r)

/-- A lane record with a length added: its split, and at an exchange length its exchange handled. `touch` is the event tick
and the late mark of the touch accepted, none for an inferred length; `start` is the start tick (R97, R98, R106,
R107). -/
def lengthAdded (head : HeatHead) (start : Tick) (length : Nat) (touch : Option (Tick × Bool)) (r : LaneRecord) :
    LaneRecord :=
  let leg := head.lengths / head.legs
  let settled := r.exchanges ++ r.awaitingRelease.toList.map fun w => ⟨w.number, none, .notJudged⟩
  let time : Option Int := touch.map fun t => tickDiff t.1 start
  let added := { r with
    splits := r.splits ++ [⟨length, time⟩], lengthCount := length
    lastTouch := if touch.isSome then time else r.lastTouch, late := r.late || (touch.map Prod.snd).getD false }
  if 1 < head.legs ∧ length % leg = 0 ∧ length < head.lengths then
    match touch, r.pendingRelease with
    | none, _ =>
      { added with
        exchanges := settled ++ [⟨length / leg, none, .notJudged⟩], awaitingRelease := none, pendingRelease := none }
    | some t, none => { added with exchanges := settled, awaitingRelease := some ⟨length / leg, t.1⟩ }
    | some t, some release =>
      let difference := tickDiff release.tick t.1
      { added with
        exchanges := settled ++ [⟨length / leg, some difference,
          if difference < -(1000 * (head.exchangeMargin : Int)) then .early else .good⟩]
        awaitingRelease := none, pendingRelease := none, late := added.late || release.late }
  else added

/-- `nodes` is the node table of `s` with the boost marks set of some lanes' pads and buttons at the finish end (R18). -/
def Boosted (s : State) (lanes : Lane → Prop) (nodes : NodeTable) : Prop :=
  ∀ i : Fin 64,
    (s.nodes[i] = none → nodes[i] = none)
      ∧ ∀ n, s.nodes[i] = some n → ∃ boost, nodes[i] = some { n with run := { n.run with boost := boost } }
        ∧ (boost = true ↔ n.run.boost = true
          ∨ ((n.entry.kind = .pad ∨ n.entry.kind = .button) ∧ (∃ lane, lanes lane ∧ n.entry.lane = some lane)
            ∧ n.entry.poolEnd = some (if s.head.lengths % 2 = 1 then .turn else .start)))

/-! ### Heat changes -/

/-- The state with all five heat timers stopped (R44). -/
def timersStopped (s : State) : State := s.setClock ⟨s.clock.tick, none, none, none, none, none⟩

/-- The lamp assignments have been cleared (R148): from `s` to `t` every lane is assigned none and stands DARK, each lane
that was lit has a LAMP off queued for its recorded station, and the deck command queue is otherwise as it was. -/
def LampsCleared (s t : State) : Prop :=
  t.lamps.patterns = s.lamps.patterns ∧ t.lamps.sincePhase = s.lamps.sincePhase
    ∧ t.deck = { s.deck with queue := t.deck.queue }
    ∧ (∀ lane : Lane, t.lamps.records[lane] =
        { s.lamps.records[lane] with assignment := none, produced := false })
    ∧ ((∀ lane : Lane, s.lamps.records[lane].produced = false) → t.deck.queue = s.deck.queue)
    ∧ (∀ (lane : Lane) (station : Byte),
        s.lamps.records[lane].produced = true → s.lamps.records[lane].recorded = some station →
        ∃ e ∈ t.deck.queue, (∃ l, e.origin = .lamp l) ∧ e.telegram = ⟨station, s.settings.station, kindLamp, [0]⟩)
    ∧ (t.deck.queue.filter fun e => !allLanes.any fun lane => isLampOf lane e)
        = s.deck.queue.filter fun e => !allLanes.any fun lane => isLampOf lane e

/-- `t` is `w` with telegrams added at the end of the board queue and HEAT_CHANGE set, its lamps cleared, and nothing
else changed: the end of a change of heat that clears the lamps (R73, R148). -/
def ChangedWithLamps (w t : State) (telegrams : List Telegram) : Prop :=
  LampsCleared w t
    ∧ t = (((setStatus .heatChange true w).setBoard
        { w.board with queue := w.board.queue ++ telegrams, reserved := false }).setLamps t.lamps).setDeck t.deck

/-- The state with telegrams added at the end of the board queue and HEAT_CHANGE set: the end of a change of heat that
leaves the lamps alone (R73). -/
def changedWith (w : State) (telegrams : List Telegram) : State :=
  (setStatus .heatChange true w).setBoard { w.board with queue := w.board.queue ++ telegrams, reserved := false }

/-- The state with the lane records initialised from the active bank and the Result Unit empty (R93, R113). -/
def relined (s : State) : State :=
  (s.setLanes (Vector.ofFn fun lane : Lane =>
    let e := s.activeBank.lanes[lane]
    { vacantRecord with
      state := if e.occupied then .waiting else .vacant
      competitor := if e.occupied then e.competitor else 0 })).setResults ⟨[], 0⟩

/-- The state with every boost mark clear (R18). -/
def unboosted (s : State) : State :=
  s.setNodes (Vector.ofFn fun i : Fin 64 =>
    s.nodes[i].map fun n => { n with run := { n.run with boost := false } })

/-- The state with the heat ARMED afresh on the active bank: no start tick, the lane records initialised, no boost (R67,
R78, R88). -/
def rearmed (s : State) : State := unboosted ((relined s).setHeat ⟨.armed, none⟩)

/-- The state in which every lane record is VACANT, the Result Unit is empty, and the heat is IDLE with no start tick
(R93, R113). -/
def emptied (s : State) : State :=
  ((s.setHeat ⟨.idle, none⟩).setLanes (Vector.replicate 10 vacantRecord)).setResults ⟨[], 0⟩

/-- The state that enters CLOSING at tick `now`: heat limit and recall window stopped, the button window started (R83). -/
def closing (now : Tick) (s : State) : State :=
  (s.setClock { s.clock with
    heatLimit := none, recallWindow := none
    buttonWindow := some (freshTimer now (1000000 * s.head.buttonWindow)) }).setHeat
    { s.heat with state := .closing }

/-! ### Placing (section 7.2) -/

/-- A lane takes part in a placing of the heat state, on this time (table 7-1). -/
def TakesPart (h : HeatState) (r : LaneRecord) (time : Int) : Prop :=
  r.dq = false ∧ ((h = .closed ∧ r.official = some time)
    ∨ (h ≠ .closed ∧ r.state = .finished ∧ r.padFinish = some time))

/-- The lane records carry the places that R114 gives: `1 +` the number of taking part lanes with strictly smaller
hundredths, and none for a lane that takes no part; `order` is the finish order list of R115. -/
def Placed (h : HeatState) (lanes : Vector LaneRecord 10) (order : List Lane) : Prop :=
  (∀ (lane : Lane) (time : Int), TakesPart h lanes[lane] time →
      lanes[lane].place = some (1 + (allLanes.filter fun other =>
        match placingTime h lanes[other] with
        | some t => decide (t / 10000 < time / 10000)
        | none => false).length))
    ∧ (∀ lane : Lane, (∀ time, ¬ TakesPart h lanes[lane] time) → lanes[lane].place = none)
    ∧ order.Nodup ∧ (∀ lane : Lane, lane ∈ order ↔ ∃ time, TakesPart h lanes[lane] time)
    ∧ order.Pairwise fun a b => ∀ ta tb, TakesPart h lanes[a] ta → TakesPart h lanes[b] tb →
        ta / 10000 < tb / 10000 ∨ (ta / 10000 = tb / 10000 ∧ (ta < tb ∨ (ta = tb ∧ a < b)))

/-- The lanes whose place has changed from `s` to `t`, in the order of their PLACE telegrams: those in the finish order
list, in list order, then those that have left it, in lane order (R116). -/
def placesMoved (s t : State) : List Lane :=
  (t.results.order ++ allLanes.filter fun lane => !t.results.order.contains lane).filter fun lane =>
    t.lanes[lane].place != s.lanes[lane].place

/-- Every lane's lamp is assigned the place it was handed: 1, 2 or 3, or none (R127, R147). -/
def LampsFollowPlaces (s : State) : Prop :=
  ∀ lane : Lane, s.lamps.records[lane].assignment =
    match s.lanes[lane].place with
    | some 1 => some 0
    | some 2 => some 1
    | some 3 => some 2
    | _ => none

/-- A lane has been evaluated from `s` to `t` and wants a state (R146): where its lamp station is the one recorded for it,
or its lamp stood dark, and no LAMP of it waits for another station, it stands in that state, and a change is queued for
the station. -/
def LampEvaluated (s t : State) (lane : Lane) (wanted : Bool) : Prop :=
  let r := s.lamps.records[lane]
  ∀ station, lampStation s lane = some station → r.recorded = some station ∨ r.produced = false →
    (∀ e ∈ s.deck.queue, e.origin = .lamp lane → e.telegram.dest = station) →
    t.lamps.records[lane].produced = wanted
    ∧ (NodeLaw s → wanted ≠ r.produced →
      (∀ other : Lane, other ≠ lane → s.lamps.records[other].recorded ≠ some station) →
      t.lamps.records[lane].recorded = some station
        ∧ ⟨.lamp lane, ⟨station, s.settings.station, kindLamp, [if wanted then 1 else 0]⟩⟩ ∈ t.deck.queue)

/-- A pattern's state at a phase under its force (R144). -/
def Lit (set : PatternSet) (phase : Nat) (force : Force) : Bool :=
  match force with
  | .none => decide (set.onEdge ≤ phase ∧ phase < set.offEdge)
  | .on => true
  | .off => false

/-! ### Node entries -/

/-- The conditions under which a loading node entry write at an index is accepted (R23): `e` are its ten bytes. -/
def NodeAccepted (s : State) (i : Fin 64) (e : List Byte) : Prop :=
  let station := byteAt e 1
  let kind := (byteAt e 2).toNat
  2 ≤ station.toNat ∧ station.toNat ≤ 126 ∧ station ≠ s.settings.station
    ∧ (∀ (j : Fin 64) (m : Node), j ≠ i → s.nodes[j] = some m → m.entry.station ≠ station)
    ∧ kind ≤ 5
    ∧ (kind = 1 ∨ kind = 2 ∨ kind = 3 → (byteAt e 3).toNat ≤ 9)
    ∧ (kind = 2 ∨ kind = 3 → (byteAt e 4).toNat ≤ 1)
    ∧ (kind = 3 → 1 ≤ (byteAt e 5).toNat ∧ (byteAt e 5).toNat ≤ 3)

/-- The entry an accepted loading write stores, clamped and without what its kind does not use (R22, R24, table
10-4). -/
def NodeStored (e : List Byte) (n : NodeEntry) : Prop :=
  let kind := (byteAt e 2).toNat
  let flags := byteAt e 9
  n.station = byteAt e 1 ∧ nodeKindCode n.kind = kind
    ∧ (n.lane.map fun lane => lane.val) = (if kind = 1 ∨ kind = 2 ∨ kind = 3 then some (byteAt e 3).toNat else none)
    ∧ n.poolEnd = (if kind = 1 then some .start
        else if kind = 2 ∨ kind = 3 then (if byteAt e 4 = 0 then some .start else some .turn) else none)
    ∧ n.position = (if kind = 3 then some (byteAt e 5).toNat else none)
    ∧ n.latency = min 2000 (256 * (byteAt e 6).toNat + (byteAt e 7).toNat)
    ∧ n.threshold = (if kind = 2 then max 1 (byteAt e 8).toNat else 1)
    ∧ n.mode = (if kind = 2 ∧ flags.getLsbD 0 = true then .level else .edge)
    ∧ n.pollClass = (if flags.getLsbD 1 then .priority else .normal)

/-! ### Read forms of table entries (table 10-4) -/

/-- The bytes of a node entry's read form; `other` tells whether it counts as OTHER (R151). -/
def nodeRead (n : Node) (other : Bool) : List Byte :=
  let e := n.entry
  let kind : Byte := match e.kind with
    | .starter => 0
    | .block => 1
    | .pad => 2
    | .button => 3
    | .panel => 4
    | .other => 5
  let lane : Byte := match e.lane with
    | none => 255
    | some l => byteOf l.val
  let place : Byte := match e.poolEnd with
    | some .start => 0
    | some .turn => 1
    | none => Config.noneEnd
  let presence : Byte := match n.run.presence with
    | .unknown => 0
    | .present => 1
    | .absent => 2
  [1, e.station, kind, lane, place, byteOf (e.position.getD 0)] ++ nat16 e.latency
    ++ [byteOf e.threshold, flagByte [decide (e.mode = .level), decide (e.pollClass = .priority)],
      presence, byteOf n.run.missCount, byteOf n.run.restCount,
      flagByte [n.run.boost, decide (n.run.contact = .above), other]]

/-- The bytes of a heat head's read form. -/
def headRead (h : HeatHead) : List Byte :=
  [1] ++ nat16 h.event ++ [byteOf h.heat, byteOf h.lengths, byteOf h.legs] ++ nat32 h.minLength ++ nat16 h.heatLimit
    ++ [byteOf h.recallWindow, byteOf h.exchangeMargin] ++ nat16 h.discrepancy ++ [byteOf h.buttonWindow]
    ++ nat16 h.buttonArming ++ nat16 h.resultHold

/-- The bytes of a set of period and edges. -/
def setRead (p : PatternSet) : List Byte := [byteOf p.period, byteOf p.onEdge, byteOf p.offEdge]

/-- `bytes` is the read form of the entry at an index of a table, `bank` being the bank read (table 10-4). The byte of a
node entry's end none is a free value (notes/assumptions/9.md). -/
def ReadForm (s : State) (bank : Bank) (table : TableCode) (index : Nat) (bytes : List Byte) : Prop :=
  let mark (b : Bool) : Byte := if b then 1 else 0
  match table with
  | .nodes => ∀ i : Fin 64, index = i.val →
      (s.nodes[i] = none → bytes = List.replicate 14 0)
      ∧ ∀ n, s.nodes[i] = some n → ∃ other, (other = true ↔ CountsAsOther s i n) ∧ bytes = nodeRead n other
  | .filters => ∀ i : Fin 16, index = i.val → bytes = match s.filters[i] with
      | none => List.replicate 5 0
      | some f => [1, f.stationValue, f.stationMask, f.items.setWidth 8, match f.action with
          | .consume => 0
          | .copy => 1
          | .forward => 2
          | .drop => 3]
  | .bank =>
    (index = 0 → bytes = match bank.head with
      | none => List.replicate 21 0
      | some h => headRead h)
    ∧ ∀ lane : Lane, index = lane.val + 1 →
      bytes = [mark bank.lanes[lane].loaded, mark bank.lanes[lane].occupied] ++ be16 bank.lanes[lane].competitor
  | .patterns => ∀ p : Fin 3, index = p.val →
      let pattern := s.lamps.patterns[p]
      bytes = setRead pattern.live
        ++ (match pattern.staged with
          | none => [0, 0, 0, 0]
          | some set => 1 :: setRead set)
        ++ [byteOf pattern.phase, match pattern.force with
          | .none => 0
          | .on => 1
          | .off => 2]
  | .notices => ∀ k : Fin 12, index = k.val →
      bytes = [flagByte [s.orders.notices[k].enabled, decide (s.orders.notices[k].direction = .panel)],
        mark s.orders.notices[k].status]
  | .settings =>
    (index = 0 → bytes = [s.settings.station]) ∧ (index = 1 → bytes = [if s.settings.mode = .home then 1 else 0])
      ∧ (index = 2 → bytes = [mark s.settings.holdBit])
      ∧ ∀ m : Fin 4, index = 3 + m.val → bytes = [mark s.settings.toConsole[m]]

/-! ### A write of the configuration memory cut off (R177, R178) -/

/-- What the memory holds when `written` bytes of a write of a snapshot have reached it: the complement of its check, then
its parts, then its check. The order of the bytes inside these is the model's reading (notes/assumptions/6.md). -/
def CutOff (written : Nat) (image : List Byte) (before after : Memory) : Prop :=
  (written = 0 → after = before)
    ∧ (written = 1 → after.read 748 = ~~~image.getD 748 0 ∧ ∀ k, k ≠ 748 → after.read k = before.read k)
    ∧ (2 ≤ written → written ≤ 750 →
        (∀ k, k = 748 ∨ k = 749 → after.read k = ~~~image.getD k 0)
          ∧ (∀ k, k < written - 2 → after.read k = image.getD k 0)
          ∧ ∀ k, (written - 2 ≤ k ∧ k < 748) ∨ 750 ≤ k → after.read k = before.read k)
    ∧ (written = 751 → after.read 749 = ~~~image.getD 749 0 ∧ (∀ k, k < 749 → after.read k = image.getD k 0)
        ∧ ∀ k, 750 ≤ k → after.read k = before.read k)
    ∧ (752 ≤ written → (∀ k, k < 750 → after.read k = image.getD k 0) ∧ ∀ k, 750 ≤ k → after.read k = before.read k)

/-- The image in a memory is bad whether the memory answers or not: the load takes nothing of it (R174, R175). -/
def HoldsBadImage (m : Memory) : Prop := ∀ answers, imageGood answers (m.bytes 750) = false

/-! ### Terms of single statements -/

/-- The member of a set of entries that comes next in rotation after the priority pointer: the first above it, going
round from entry 63 to entry 0; the pointer none counts as below entry 0 (R15). -/
def NextInRotation (member : Fin 64 → Prop) (pointer : Option (Fin 64)) (i : Fin 64) : Prop :=
  member i ∧
    match pointer with
    | none => ∀ j, j < i → ¬ member j
    | some p =>
      (p < i ∧ ∀ j, p < j → j < i → ¬ member j)
        ∨ (i ≤ p ∧ (∀ j, p < j → ¬ member j) ∧ ∀ j, j < i → ¬ member j)

/-- An event counts on a counter of a running unit (R169). -/
def CountsOn (c : TallyCounter) (e : TallyEvent) (lane : Option Lane) (station : Option Byte) : Prop :=
  c.enabled = true ∧ c.select = tallyCode e
    ∧ c.laneMask.getLsbD (match lane with | some l => l.val | none => 10) = true
    ∧ (match station with
       | some a => StationAgrees c.stationMask c.stationValue a
       | none => c.stationMask = 0)

/-- A pattern set as R142 stores it. -/
def PatternFits (p : PatternSet) : Prop :=
  2 ≤ p.period ∧ p.period ≤ 255 ∧ p.onEdge ≤ p.offEdge ∧ p.offEdge ≤ p.period

/-- A place pattern's sets are as R142 stores them. -/
def PatternStored (p : Pattern) : Prop := PatternFits p.live ∧ ∀ set, p.staged = some set → PatternFits set

end Sys2Proof.Machine
end

