-- ==== Sys2Proof/Certificates/Slice0/Obligations.lean ====
section
/-! DEFINITION. The statements about the TC-10 for the provers. `advanceTo now s` is the state when time has moved on to a
command's tick; `ownerTurn now s` the same with the timers that an owner's order starts again. -/

open Sys2Proof Sys2Proof.Machine

/-! ### Steps, time and tick arithmetic -/

/-- A step carries out the command at the front of the queue on the state with the queue's rest; on an empty queue the
block idles, which is the model's choice (notes/assumptions/1.md). -/
def Obligations.StepTakesFrontCommand : Prop :=
  (∀ (c : Instr) (s : State), step (s.setPending (c :: s.pending)) = exec c s)
    ∧ ∀ s : State, s.pending = [] → step s = .next s

/-- Every command answers a next state, leaves the waiting commands alone, and leaves the tick counter at its own tick,
POWER_ON at 0 (R41). That a command carries its tick and leaves the counter there is the model's choice
(notes/assumptions/1.md), and so is it that a command without its occasion completes by moving time alone
(notes/assumptions/2.md). -/
def Obligations.CommandsCompleteAndKeepTime : Prop :=
  ∀ (c : Instr) (s : State),
    ∃ t, exec c s = .next t ∧ t.pending = s.pending ∧ t.clock.tick = tickAfter c

/-- A difference of two ticks is formed modulo 2^32 and read signed, so that the counter's wrap has no effect on ticks less
than 2,147,483,648 µs apart (R42). The event tick of an item is its arrival tick less the latency compensation less ten
times the age, modulo 2^32, and lies 0 to 42,950 µs before the arrival (R46). -/
def Obligations.TickArithmetic : Prop :=
  ((∀ a b : Tick,
      let d := (b.toNat + 4294967296 - a.toNat) % 4294967296
      tickDiff b a = if d ≤ 2147483647 then (d : Int) else (d : Int) - 4294967296)
      ∧ ∀ (a : Tick) (d : Int), -2147483648 ≤ d → d ≤ 2147483647 → tickDiff (a + BitVec.ofInt 32 d) a = d)
    ∧ (∀ (arrival : Tick) (latency age : Nat), latency ≤ 2000 → age ≤ 4095 →
      let event := eventTick arrival latency age
      event.toNat = (arrival.toNat + 4294967296 - latency - 10 * age) % 4294967296
        ∧ 0 ≤ tickDiff arrival event ∧ tickDiff arrival event ≤ 42950)

/-! ### Start-up and the configuration memory -/

/-- POWER_ON puts every block at its POWER-ON values, notice statuses clear and the lamp phase count at its start among
them, begins the load and reads the strap; the waiting commands stay. State.reset is what it leaves with the strap low
and a blank memory (notes/assumptions/3.md, the model's choice). -/
def Obligations.PowerOnResetsEveryBlock : Prop :=
  (∀ (strapHigh : Bool) (written : Nat) (s : State), ∃ t, exec (.powerOn strapHigh written) s = .next t
    ∧ t.clock = ⟨0, none, none, none, none, none⟩
    ∧ (∀ i : Fin 64, t.nodes[i] = none) ∧ (∀ i : Fin 16, t.filters[i] = none)
    ∧ t.deck.normalPointer = 0 ∧ t.deck.normalCount = 0 ∧ t.deck.priorityPointer = none ∧ t.deck.queue = []
    ∧ t.banks.a.head = none ∧ t.banks.b.head = none
    ∧ (∀ k : Lane, t.banks.a.lanes[k] = ⟨false, false, 0⟩ ∧ t.banks.b.lanes[k] = ⟨false, false, 0⟩)
    ∧ t.banks.active = .a ∧ t.banks.pendingSwap = false
    ∧ t.heat = ⟨.idle, none⟩ ∧ (∀ lane : Lane, t.lanes[lane] = vacantRecord)
    ∧ t.results = ⟨[], 0⟩ ∧ t.board.queue = [] ∧ t.board.reserved = false
    ∧ (∀ lane : Lane, t.lamps.records[lane] = ⟨none, false, false, none⟩) ∧ t.lamps.sincePhase = 0
    ∧ (∀ p : Fin 3, t.lamps.patterns[p].phase = 0 ∧ t.lamps.patterns[p].staged = none
        ∧ t.lamps.patterns[p].force = .none)
    ∧ t.orders.owner = .console ∧ t.orders.claim = none ∧ t.orders.handover = none ∧ t.orders.home = none
    ∧ t.orders.chain = none ∧ t.orders.slot = .free
    ∧ (∀ k : Fin 12, t.orders.notices[k].status = false)
    ∧ (∀ (m : Fin 4) (k : Fin 8), t.orders.mailboxes[m][k] = 0)
    ∧ (∀ i : Fin 8, t.tally.counters[i] = ⟨0, 0, BitVec.allOnes 11, 0, 0, false, false, false⟩)
    ∧ t.tally.frozen = false ∧ t.tally.freezeOnOverflow = false
    ∧ t.loader.load = .loading ∧ t.loader.hold = strapHigh ∧ t.loader.save = .idle
    ∧ (s.loader.save = .idle → t.loader.memory = s.loader.memory)
    ∧ t.pending = s.pending)
    ∧ exec (.powerOn false 0) State.reset = .next State.reset

/-- POWER_ON in the middle of a write abandons it: before the first byte the memory is as it was; from the complemented
check on, up to the last byte of the check, the image is bad (R178). That is so for an image that carries its check, and
but for a memory of the old and the new parts mixed that happens to have the complemented check. The order of the bytes inside the parts, and so what a cut leaves
where, is the model's reading (notes/assumptions/6.md); that a write cut with its last byte made leaves the new image is
its choice (notes/assumptions/25.md). -/
def Obligations.PowerOnAbandonsWrite : Prop :=
  ∀ (strapHigh : Bool) (written : Nat) (s : State) (image : List Byte),
    s.loader.save = .writing image → image.length = 750 → s.loader.memory.wf →
    ∃ t, exec (.powerOn strapHigh written) s = .next t ∧ t.loader.save = .idle ∧ t.loader.load = .loading
      ∧ CutOff written image s.loader.memory t.loader.memory
      ∧ (crc16 image = 0 → 2 ≤ written → written ≤ 751 →
          750 ≤ written ∨ crc16 (t.loader.memory.bytes 748) ≠ ~~~crc16 (image.take 748) →
          HoldsBadImage t.loader.memory)
      ∧ (752 ≤ written → t.loader.memory.bytes 750 = image)

/-- LOAD_DONE on a bad or blank image takes nothing of it: every part is at its default, the load is DONE, HOLD is as the
strap left it, and CONFIG_INVALID stands set; the heat, the lanes, the banks and the memory are untouched (R175,
R176, table 12-2). That an image read back with a fault is taken as bad also where its check holds is the model's choice
(notes/assumptions/26.md). -/
def Obligations.LoadWithoutImageTakesDefaults : Prop :=
  ∀ (now : Tick) (answers : Bool) (s : State),
    s.loader.load = .loading → imageGood answers (s.loader.memory.bytes 750) = false →
    ∃ t, exec (.loadDone now answers) s = .next t
      ∧ (∀ i : Fin 64, t.nodes[i] = none) ∧ (∀ i : Fin 16, t.filters[i] = none)
      ∧ t.settings.station = 1 ∧ t.settings.mode = .park ∧ t.settings.holdBit = false
      ∧ (∀ m : Fin 4, t.settings.toConsole[m] = false)
      ∧ (∀ k : Fin 12, t.orders.notices[k].enabled = true ∧ t.orders.notices[k].direction = .board)
      ∧ t.lamps.patterns[0].live = ⟨100, 0, 100⟩ ∧ t.lamps.patterns[1].live = ⟨100, 0, 0⟩
      ∧ t.lamps.patterns[2].live = ⟨100, 0, 0⟩
      ∧ (∀ p : Fin 3, t.lamps.patterns[p].staged = none ∧ t.lamps.patterns[p].force = .none)
      ∧ t.loader = { s.loader with load := .done } ∧ (t.notice .configInvalid).status = true
      ∧ t.clock = (advanceTo now s).clock ∧ t.deck = (advanceTo now s).deck
      ∧ t.heat = s.heat ∧ t.lanes = s.lanes ∧ t.results = s.results ∧ t.banks = s.banks
      ∧ t.lamps.records = s.lamps.records

/-- What SAVE stores, LOAD_DONE takes back: from a memory that holds the image of a state whose tables are in their stored
forms, the load gives the settings, the notice enables and directions, the node and filter entries, and each pattern's
staged set when it had one and its live set otherwise; runtime fields and statuses are not stored (R174, R175, R177). -/
def Obligations.LoadTakesBackSavedTables : Prop :=
  ∀ (now : Tick) (s saved : State),
    s.loader.load = .loading → NodeLaw saved → (∀ p : Fin 3, PatternStored saved.lamps.patterns[p]) →
    s.loader.memory.bytes 750 = imageOf saved →
    ∃ t, exec (.loadDone now true) s = .next t
      ∧ t.settings = saved.settings ∧ t.filters = saved.filters
      ∧ (∀ i : Fin 64, t.nodes[i] = saved.nodes[i].map fun n => ⟨n.entry, freshRuntime⟩)
      ∧ (∀ k : Fin 12, t.orders.notices[k] = { saved.orders.notices[k] with status := s.orders.notices[k].status })
      ∧ (∀ p : Fin 3, t.lamps.patterns[p].live = saved.lamps.patterns[p].staged.getD saved.lamps.patterns[p].live
          ∧ t.lamps.patterns[p].staged = none ∧ t.lamps.patterns[p].force = .none)
      ∧ t.loader = { s.loader with load := .done, hold := s.loader.hold || saved.settings.holdBit }
      ∧ t.board = (advanceTo now s).board ∧ t.heat = s.heat ∧ t.lanes = s.lanes

/-- SAVE takes a snapshot and is answered OK, or BUSY while one is being written; SAVE_DONE ends the write: with the image in
the memory when it was whole; with CONFIG_INVALID set when the read-back disagrees with the snapshot's check or the memory
stopped acknowledging (R177). That the memory then holds the bytes read back, or the bytes written before the stop, none of
them when it acknowledged none and all when it failed at the read-back alone, is the model's choice
(notes/assumptions/6.md and 24.md). -/
def Obligations.SaveWritesTheImage : Prop :=
  (∀ (now : Tick) (src tag : Byte) (s : State) (room : List Telegram), ConsoleServed s → PlaceMade s room →
    (s.loader.save = .idle →
      exec (.save now src tag []) s = .next (answered
        ((ownerTurn now s).setLoader { s.loader with save := .writing (imageOf s) }) room
        (response s src tag .save .ok 0 [])))
    ∧ ∀ image, s.loader.save = .writing image →
      exec (.save now src tag []) s = .next (answered (ownerTurn now s) room (response s src tag .save .busy 0 [])))
    ∧ ∀ (now : Tick) (s : State) (image : List Byte),
      s.loader.save = .writing image → image.length = 750 → s.loader.memory.wf →
      let Ended (how : SaveEnd) (t : State) : Prop :=
        exec (.saveDone now how) s = .next t ∧ t.loader = { s.loader with save := .idle, memory := t.loader.memory }
      let Invalid (t : State) : Prop :=
        (t.notice .configInvalid).status = true ∧ OnlyAnnounces ((advanceTo now s).setLoader t.loader) t
      (∃ t, Ended .complete t ∧ t.loader.memory.bytes 750 = image ∧ t = (advanceTo now s).setLoader t.loader)
      ∧ (∀ read : List Byte, read.length = 750 →
        ∃ t, Ended (.misread read) t ∧ t.loader.memory.bytes 750 = read
          ∧ let agrees := read.drop 748 = image.drop 748 ∧ be16 (crc16 (read.take 748)) = image.drop 748
            (agrees → t = (advanceTo now s).setLoader t.loader) ∧ (¬ agrees → Invalid t))
      ∧ ∀ written, written ≤ 752 → ∃ t, Ended (.stopped written) t ∧ Invalid t
          ∧ CutOff written image s.loader.memory t.loader.memory

/-! ### The deck line -/

/-- POLL takes the normal visit or the priority visit that the schedule gives, and sends the POLL with the answer window
open, at the end of a gap, past a gap with nothing to send, or behind the quiet of an empty round. A normal visit passes
what is empty, resting or the waiting panel; rest counts step, and the count of normal visits rises. When the round in hand
passes over all that is left of it, the visit is the first of the next round. At a priority slot the next member in
rotation is polled, and neither the normal pointer nor its count of visits goes on (R7, R12 to R17). That a priority
visit counts as one of the round and that of entry 63 ends it (notes/assumptions/12.md), that the window starts at the
command's tick (notes/assumptions/5.md), and when the starter's membership in RUNNING ends (notes/assumptions/16.md) are
the model's readings, and so is it that the skipped panel counts no rest (notes/assumptions/13.md). -/
def Obligations.PollChoosesVisit : Prop :=
  ∀ (now : Tick) (s : State), Serving s → NodeLaw s → Chooses now s →
    let u := advanceTo now s
    let polled (n : Node) (d : DeckPoller) (poll : Telegram) : DeckPoller :=
      { d with line := some poll, phase := .awaiting n.entry.station (freshTimer now 60) }
    let VisitsFrom (first : Fin 64) (r : State) : Prop := ∀ (i : Fin 64) (n : Node),
      r.nodes[i] = some n → first ≤ i → ¬ PassedOver r i → (∀ j, first ≤ j → j < i → PassedOver r j) →
      ∃ (nodes : NodeTable) (poll : Telegram), PollOf s i n.entry.station poll
        ∧ (∀ j : Fin 64, j < first ∨ i < j → nodes[j] = r.nodes[j])
        ∧ (∀ j : Fin 64, first ≤ j → j < i → PassedEntry r j nodes[j])
        ∧ nodes[i] = some (if n.run.presence = .absent then { n with run := { n.run with restCount := 0 } } else n)
        ∧ exec (.poll now) s = .next ((u.setNodes nodes).setDeck (polled n { u.deck with
            normalPointer := i + 1, roundVisited := i != 63
            normalCount := if s.deck.normalCount < 4 then s.deck.normalCount + 1 else 1 } poll))
    (s.deck.normalCount < 4 ∨ (∀ j, ¬ PriorityMember u j) →
      VisitsFrom s.deck.normalPointer s ∧ ∀ r, RoundBegins s r → VisitsFrom 0 r)
    ∧ ∀ (i : Fin 64) (n : Node), s.nodes[i] = some n →
      4 ≤ s.deck.normalCount → NextInRotation (PriorityMember u) s.deck.priorityPointer i →
      ∃ poll, PollOf s i n.entry.station poll
        ∧ exec (.poll now) s = .next (u.setDeck (polled n { u.deck with
            normalCount := 0, priorityPointer := some i, roundVisited := true } poll))

/-- A good answer makes its station PRESENT with its miss and rest counts at 0 and ends the exchange, here with a REPORT of
length 0; a station that was ABSENT raises NODE_BACK, and the last one to leave ABSENT clears NODE_LOST (R10, R11). The
item of a REPORT goes through the Intake Filter: a code that is no item's, that does not belong to the station's effective
kind, or of a station that no entry holds any more, is a KIND_MISMATCH; DROP ends it with nothing counted; FORWARD counts
LATE_STAMP and offers its EVENT, and an item that has no judge is forwarded or dropped (R4, R27, R29 to R39). -/
def Obligations.GoodAnswerMakesPresent : Prop :=
  (∀ (now : Tick) (bytes : List Byte) (s : State) (i : Fin 64) (n : Node) (window : Timer),
    NodeLaw s → s.nodes[i] = some n → s.deck.phase = .awaiting n.entry.station window →
    receive bytes = .good ⟨s.settings.station, n.entry.station, kindReport, []⟩ →
    let back := heard now s i n
    (n.run.presence ≠ .absent → exec (.deckAnswer now bytes) s = .next back)
    ∧ (n.run.presence = .absent → ∃ t, exec (.deckAnswer now bytes) s = .next t ∧ OnlyAnnounces back t
        ∧ (t.notice .nodeBack).status = true
        ∧ ((∀ (j : Fin 64) (m : Node), j ≠ i → s.nodes[j] = some m → m.run.presence ≠ .absent) →
            (t.notice .nodeLost).status = false)))
  ∧ (∀ (now : Tick) (bytes : List Byte) (s : State) (station : Byte) (window : Timer) (number age : Nat) (value : Byte),
    (∀ (j : Fin 64) (m : Node), s.nodes[j] = some m → m.entry.station ≠ station) →
    s.deck.phase = .awaiting station window → ReportOf s station number age value bytes → PlacesFree 1 s →
    let u := advanceTo now s
    ∃ t, exec (.deckAnswer now bytes) s = .next t ∧ OnlyAnnounces (u.setDeck { u.deck with phase := .gap }) t
      ∧ t.tally = tallyAfter s.tally .kindMismatch none (some station))
  ∧ ∀ (now : Tick) (bytes : List Byte) (s : State) (i : Fin 64) (n : Node) (number age : Nat) (value : Byte),
    Reported s bytes i n number age value → PlacesFree 1 s →
    let Mismatch (lane : Option Lane) : Prop :=
      ∃ t, exec (.deckAnswer now bytes) s = .next t ∧ OnlyAnnounces (heard now s i n) t
        ∧ t.tally = tallyAfter s.tally .kindMismatch lane (some n.entry.station)
    (number = 0 ∨ 8 ≤ number → Mismatch none)
    ∧ ∀ code : ItemCode, number = itemNumber code →
      let contact := n.entry.kind = .pad ∧ code = .contact
      let noJudge := code = .generic ∨ CountsAsOther s i n
      let gives := FilterGives s n.entry.station code
      let h := heard now s i (if contact then { n with run := { n.run with contact := .above } } else n)
      (¬ Belongs s i n code → Mismatch n.entry.lane)
      ∧ (Belongs s i n code →
        (contact → n.entry.threshold ≤ value.toNat ∧ (n.entry.mode = .level ∨ n.run.contact = .below)) →
        (gives .drop ∨ (noJudge ∧ gives .consume) → exec (.deckAnswer now bytes) s = .next h)
        ∧ (gives .forward ∨ (noJudge ∧ (gives .copy ∨ Unfiltered s n.entry.station code)) →
          (age = 4095 → tallyAlarms s.tally .lateStamp n.entry.lane (some n.entry.station) = false) →
          exec (.deckAnswer now bytes) s = .next ((stamped n age h).setBoard { h.board with
            queue := s.board.queue ++ [eventSent now s n code age value] })))

/-- A miss ends the exchange: the miss count rises and stops at 255, the 8th makes the station ABSENT and, when none was,
raises NODE_LOST; an ABSENT station rests anew; POLL_MISS is counted with the station and its lane, and BAD_CHECK too when
a complete telegram failed its check. ANSWER_WINDOW_MISS, DECK_BAD_TELEGRAM and a bad or not good DECK_ANSWER are misses
alike (R1, R7, R10, R11). -/
def Obligations.MissesCountTowardAbsent : Prop :=
  ∀ (now : Tick) (s : State) (i : Fin 64) (n : Node) (window : Timer),
    NodeLaw s → PlacesFree 2 s → s.nodes[i] = some n →
    (advanceTo now s).deck.phase = .awaiting n.entry.station window →
    let u := advanceTo now s
    let misses := min 255 (n.run.missCount + 1)
    let run : NodeRuntime := { n.run with
      missCount := misses
      presence := if misses = 8 then .absent else n.run.presence
      restCount := if n.run.presence = .absent ∨ misses = 8 then 0 else n.run.restCount }
    let tally := tallyAfter s.tally .pollMiss n.entry.lane (some n.entry.station)
    let Missed (t : State) : Prop :=
      OnlyAnnounces ((u.setNodes (s.nodes.set i (some { n with run := run }))).setDeck { u.deck with phase := .gap }) t
        ∧ (misses = 8 → (∀ (j : Fin 64) (m : Node), s.nodes[j] = some m → m.run.presence ≠ .absent) →
            (t.notice .nodeLost).status = true)
    (∃ t, exec (.deckBadTelegram now) s = .next t ∧ Missed t ∧ t.tally = tally)
    ∧ (window.span ≤ window.elapsed → ∃ t, exec (.answerWindowMiss now) s = .next t ∧ Missed t ∧ t.tally = tally)
    ∧ (∀ bytes, receive bytes = .checkFails → ∃ t, exec (.deckAnswer now bytes) s = .next t ∧ Missed t
        ∧ t.tally = tallyAfter tally .badCheck n.entry.lane (some n.entry.station))
    ∧ ∀ (bytes : List Byte) (a : Telegram), receive bytes = .good a →
        (a.dest ≠ s.settings.station ∨ a.src ≠ n.entry.station ∨ (a.kind ≠ kindReport ∧ a.kind ≠ kindAnswer
            ∧ ¬ (a.kind = kindOrder ∧ IsFirst s .panel i ∧ 4 ≤ a.payload.length))
          ∨ (a.kind = kindReport ∧ a.payload.length ≠ 0 ∧ a.payload.length ≠ 4 ∧ a.payload.length ≠ 8)) →
        ∃ t, exec (.deckAnswer now bytes) s = .next t ∧ Missed t ∧ t.tally = tally

/-- COMMAND_GAP sends the head of the deck command queue, one telegram, and the gap is skipped on an empty queue: a
pass-through telegram goes out with the module's station as source, and a LAMP sets its lane's line state (R3, R21, R145).
A round that passes over every entry is an empty one: POLL does nothing in it, and EMPTY_ROUND sends the head in the same
way and leaves the line quiet for 1 ms, at whose end the next exchange may be chosen (R12 to R14). That POLL then moves
time alone (notes/assumptions/2.md), that the 1 ms starts at the command's tick, without the line time of the telegram
just sent (notes/assumptions/5.md), that the source is the station in force when a telegram is sent
(notes/assumptions/11.md), that a priority visit keeps a round from being empty (notes/assumptions/12.md), and that the
skipped panel counts no rest (notes/assumptions/13.md) are the model's choices and readings. -/
def Obligations.DeckGapSendsHead : Prop :=
  (∀ (now : Tick) (s : State), s.deck.phase = .gap →
      ∃ records : Vector LampRecord 10, LampNoted s records
        ∧ exec (.commandGap now) s = .next (((advanceTo now s).setDeck (gapSent s .ready)).setLamps
            { (advanceTo now s).lamps with records := records }))
    ∧ (∀ (now : Tick) (s r : State), Serving s → Chooses now s → RoundBegins s r →
      let u := advanceTo now s
      (∀ j, PassedOver r j) → (4 ≤ s.deck.normalCount → ∀ j, ¬ PriorityMember u j) →
      exec (.poll now) s = .next u
      ∧ ∃ (nodes : NodeTable) (records : Vector LampRecord 10), (∀ j : Fin 64, PassedEntry r j nodes[j])
        ∧ LampNoted s records
        ∧ exec (.emptyRound now) s = .next (((u.setNodes nodes).setDeck
            { gapSent s (.quiet (freshTimer now 1000)) with
              normalPointer := 0, roundVisited := false
              normalCount := if s.deck.normalCount < 4 then s.deck.normalCount else 0 }).setLamps
            { u.lamps with records := records }))

/-- The node query's course: the end of the QUERY's transmission starts the 20 ms answer timer; an ANSWER of the station
taken while it runs, or its expiry, makes the slot HELD, with the payload or with NORESP, raises QUERY_DONE and starts the
5 s collection timer, whose expiry frees the slot (R162, R163). -/
def Obligations.NodeQueryRunsItsCourse : Prop :=
  ∀ (now : Tick) (s : State) (q : Query),
    let u := advanceTo now s
    (s.orders.slot = .waiting q none → s.deck.queryOnLine = true →
      exec (.querySent now) s = .next ((u.setDeck { u.deck with queryOnLine := false }).setOrders
        { u.orders with slot := .waiting q (some (freshTimer now 20000)) }))
    ∧ (∀ timer, u.orders.slot = .waiting q (some timer) → timer.span ≤ timer.elapsed →
      ∃ t, exec (.queryAnswerExpiry now) s = .next t ∧ (t.notice .queryDone).status = true
        ∧ OnlyAnnounces (u.setOrders { u.orders with slot := .held q .noResponse (freshTimer now 5000000) }) t)
    ∧ (∀ (timer : Timer) (payload bytes : List Byte) (i : Fin 64) (n : Node) (window : Timer),
      u.orders.slot = .waiting q (some timer) → NodeLaw s → s.nodes[i] = some n → n.entry.station = q.station →
      n.run.presence = .present → s.deck.phase = .awaiting q.station window →
      receive bytes = .good ⟨s.settings.station, q.station, kindAnswer, payload⟩ →
      ∃ t, exec (.deckAnswer now bytes) s = .next t ∧ (t.notice .queryDone).status = true
        ∧ OnlyAnnounces (((u.setNodes (s.nodes.set i
            (some { n with run := { n.run with missCount := 0, restCount := 0 } }))).setDeck
            { u.deck with phase := .gap }).setOrders
            { u.orders with slot := .held q (.answer payload) (freshTimer now 5000000) }) t)
    ∧ ∀ (result : QueryResult) (timer : Timer), u.orders.slot = .held q result timer → timer.span ≤ timer.elapsed →
      exec (.collectionExpiry now) s = .next (u.setOrders { u.orders with slot := .free })

/-! ### The starter, the pads, the blocks and the buttons -/

/-- A START of the starter taken in ARMED or MARKS starts the heat at its event tick: RUNNING, the three race timers
referred to the start tick, every WAITING lane SWIMMING, a marks release turned into the reaction, and in a heat of one
length the finish-end pads and buttons of those lanes boosted (R46, R75, R94). -/
def Obligations.StartReportStartsHeat : Prop :=
  ∀ (now : Tick) (bytes : List Byte) (s : State) (i : Fin 64) (n : Node) (age : Nat) (value : Byte) (copied : Bool),
    SoleItem s bytes i n .start age value copied → IsFirst s .starter i →
    s.heat.state = .armed ∨ s.heat.state = .marks → PlacesFree (2 + copied.toNat) s →
    let h := handed now s i n .start age value copied
    let event := eventTick now n.entry.latency age
    let passed := (now - event).toNat
    ∃ (nodes : NodeTable) (lanes : Vector LaneRecord 10),
      (s.head.lengths = 1 → Boosted h (fun lane => s.lanes[lane].state = .waiting) nodes)
      ∧ (s.head.lengths ≠ 1 → nodes = h.nodes)
      ∧ (∀ lane : Lane, s.lanes[lane].state ≠ .waiting → lanes[lane] = s.lanes[lane])
      ∧ (∀ lane : Lane, s.lanes[lane].state = .waiting → s.lanes[lane].marksRelease = none →
          lanes[lane] = { s.lanes[lane] with state := .swimming })
      ∧ (∀ (lane : Lane) (m : HeldRelease), s.lanes[lane].state = .waiting → s.lanes[lane].marksRelease = some m →
          lanes[lane] = { s.lanes[lane] with
            state := .swimming, marksRelease := none, reaction := some (tickDiff m.tick event)
            early := s.lanes[lane].early && decide (tickDiff m.tick event < 0)
            late := s.lanes[lane].late || m.late })
      ∧ (let w := (((h.setNodes nodes).setLanes lanes).setHeat ⟨.running, some event⟩).setClock { h.clock with
            heatLimit := some ⟨event, 1000000 * s.head.heatLimit, passed⟩
            recallWindow := some ⟨event, 1000000 * s.head.recallWindow, passed⟩
            clockStep := some ⟨event, passed, 0⟩ }
         exec (.deckAnswer now bytes) s = .next (changedWith w (heatAnnouncement w)))

/-- The starter's other items: MARKS in ARMED makes the heat MARKS; a RECALL in MARKS, or in RUNNING with a race time
from 0 to the recall window, both limits included, brings the heat back to ARMED on fresh lane records; every other MARKS,
START or RECALL counts START_IGNORED and changes nothing (R74, R76 to R79). -/
def Obligations.StarterItemsByHeatState : Prop :=
  ∀ (now : Tick) (bytes : List Byte) (s : State) (i : Fin 64) (n : Node) (code : ItemCode) (age : Nat) (value : Byte)
    (copied : Bool),
    SoleItem s bytes i n code age value copied → IsFirst s .starter i → PlacesFree (2 + copied.toNat) s →
    let h := handed now s i n code age value copied
    let ann (w : State) : State := changedWith w (heatAnnouncement w)
    let raced : Option Int := s.heat.startTick.map fun start => tickDiff (eventTick now n.entry.latency age) start
    let inWindow : Prop := ∃ time, raced = some time ∧ 0 ≤ time ∧ time ≤ 1000000 * (s.head.recallWindow : Int)
    (code = .marks → s.heat.state = .armed →
      exec (.deckAnswer now bytes) s = .next (ann (h.setHeat { s.heat with state := .marks })))
    ∧ (code = .recall → s.heat.state = .marks →
      exec (.deckAnswer now bytes) s = .next (ann ((relined h).setHeat { s.heat with state := .armed })))
    ∧ (code = .recall → s.heat.state = .running → inWindow →
      let w := rearmed (h.setClock { h.clock with heatLimit := none, recallWindow := none, clockStep := none })
      ∃ t, exec (.deckAnswer now bytes) s = .next t ∧ ChangedWithLamps w t (heatAnnouncement w))
    ∧ ((code = .marks ∧ s.heat.state ≠ .armed)
        ∨ (code = .start ∧ s.heat.state ≠ .armed ∧ s.heat.state ≠ .marks)
        ∨ (code = .recall ∧ s.heat.state ≠ .marks ∧ ¬ (s.heat.state = .running ∧ inWindow)) →
      ∃ t, exec (.deckAnswer now bytes) s = .next t ∧ OnlyAnnounces h t
        ∧ t.tally = tallyAfter h.tally .startIgnored none (some n.entry.station))

/-- A CONTACT of a pad passes the contact step, where it may be no touch candidate (R31, R32), and a candidate is tested
in the order of table 6-3: each rejection counts its own event with station and lane and changes the contact state alone
(R96, R98). A swimming lane with no start tick, which no run reaches, is taken as TOUCH_IDLE by the model's choice
(notes/assumptions/19.md). -/
def Obligations.TouchIsTested : Prop :=
  ∀ (now : Tick) (bytes : List Byte) (s : State) (i : Fin 64) (n : Node) (age : Nat) (value : Byte) (lane : Lane)
    (place : PoolEnd) (copied : Bool),
    SoleItem s bytes i n .contact age value copied → n.entry.kind = .pad → n.entry.lane = some lane →
    n.entry.poolEnd = some place → PlacesFree (1 + copied.toNat) s →
    let above := n.entry.threshold ≤ value.toNat
    let touched : Node := { n with run := { n.run with contact := if above then .above else .below } }
    let candidate := above ∧ (n.entry.mode = .level ∨ n.run.contact = .below)
    let r := s.lanes[lane]
    let least : Int := 1000 * s.head.minLength
    let base : Int := r.lastTouch.getD 0
    let expected : PoolEnd := if (r.lengthCount + 1) % 2 = 1 then .turn else .start
    let h := handed now s i touched .contact age value copied
    let Rejected (why : TallyEvent) : Prop :=
      ∃ t, exec (.deckAnswer now bytes) s = .next t ∧ OnlyAnnounces h t
        ∧ t.tally = tallyAfter h.tally why (some lane) (some n.entry.station)
    (¬ candidate → exec (.deckAnswer now bytes) s = .next (heard now s i touched))
    ∧ (candidate → r.state ≠ .swimming ∨ s.heat.startTick = none → Rejected .touchIdle)
    ∧ ∀ start, s.heat.startTick = some start → candidate → r.state = .swimming →
      let time := tickDiff (eventTick now n.entry.latency age) start
      (1000000 * (s.head.heatLimit : Int) < time → Rejected .touchLimit)
      ∧ (time ≤ 1000000 * (s.head.heatLimit : Int) → time < base + least → Rejected .touchLockout)
      ∧ (time ≤ 1000000 * (s.head.heatLimit : Int) → base + least ≤ time → place ≠ expected →
          time < base + 2 * least ∨ s.head.lengths < r.lengthCount + 2 → Rejected .touchWrongEnd)

/-- An accepted touch that does not finish its lane: the split is appended, the length count and the last touch time follow,
TOUCH_ACCEPTED is counted, a SPLIT is offered, and reaching the final length boosts the lane's finish end. At the other end
the missed length is inferred first, as a split with no time. At an exchange length an earlier exchange still awaiting its
release is NOT JUDGED; the exchange of an inferred length is NOT JUDGED; that of a touch is judged on a release that was
held, EARLY raising EARLY_TAKEOFF, or awaits one (R97 to R99, R106, R107). -/
def Obligations.TouchAppendsSplit : Prop :=
  ∀ (now : Tick) (bytes : List Byte) (s : State) (i : Fin 64) (n : Node) (age : Nat) (value : Byte) (lane : Lane)
    (place : PoolEnd) (start : Tick) (copied : Bool),
    SoleItem s bytes i n .contact age value copied → n.entry.kind = .pad → n.entry.lane = some lane →
    n.entry.poolEnd = some place → PlacesFree (3 + copied.toNat) s → n.entry.threshold ≤ value.toNat →
    n.entry.mode = .level ∨ n.run.contact = .below → s.heat.startTick = some start →
    s.lanes[lane].state = .swimming →
    let touched : Node := { n with run := { n.run with contact := .above } }
    let h := handed now s i touched .contact age value copied
    let r := s.lanes[lane]
    let late := age == 4095
    let event := eventTick now n.entry.latency age
    let time := tickDiff event start
    let least : Int := 1000 * s.head.minLength
    let base : Int := r.lastTouch.getD 0
    let expected : PoolEnd := if (r.lengthCount + 1) % 2 = 1 then .turn else .start
    let Accepted (before : LaneRecord) (length : Nat) : Prop :=
      let record := lengthAdded s.head start length (some (event, late)) before
      let early := record.exchanges.length ≠ before.exchanges.length
        ∧ ∃ x, record.exchanges.getLast? = some x ∧ x.verdict = .early
      ∃ (t : State) (nodes : NodeTable) (queue : List Telegram), exec (.deckAnswer now bytes) s = .next t
        ∧ (length + 1 = s.head.lengths → Boosted h (fun l => l = lane) nodes)
        ∧ (length + 1 ≠ s.head.lengths → nodes = h.nodes)
        ∧ OnlyAnnounces ((withLane h lane record).setNodes nodes) t
        ∧ t.tally = tallyAfter h.tally .touchAccepted (some lane) (some n.entry.station)
        ∧ (early → (t.notice .earlyTakeoff).status = true
          ∧ t.board.queue = queue ++ [splitSent s lane length time late] ++ noticeSent s .earlyTakeoff 4)
        ∧ (¬ early → (t.notice .earlyTakeoff).status = (s.notice .earlyTakeoff).status
          ∧ t.board.queue = queue ++ [splitSent s lane length time late])
    time ≤ 1000000 * (s.head.heatLimit : Int) → base + least ≤ time →
    (place = expected → r.lengthCount + 1 < s.head.lengths → Accepted r (r.lengthCount + 1))
    ∧ (place ≠ expected → base + 2 * least ≤ time → r.lengthCount + 2 < s.head.lengths →
      Accepted (lengthAdded s.head start (r.lengthCount + 1) none r) (r.lengthCount + 2))

/-- The touch that reaches the last length finishes its lane, also behind an inferred length: the pad finish time is set,
open exchanges are settled as NOT JUDGED, the finish end is boosted, the provisional places and the finish order list are
those of the placing rule, the lamps follow the places, and the heat enters CLOSING when it was RUNNING and no occupied
lane without DQ is left swimming. The board queue takes the SPLIT, the FINISH of the lane, a PLACE for each other lane whose
place has changed, and HEAT with its NOTICE at an entry into CLOSING, in this order (R80, R83, R98, R100, R116, R118,
R127). -/
def Obligations.FinishPlacesLane : Prop :=
  ∀ (now : Tick) (bytes : List Byte) (s : State) (i : Fin 64) (n : Node) (age : Nat) (value : Byte) (lane : Lane)
    (place : PoolEnd) (start : Tick) (copied : Bool),
    SoleItem s bytes i n .contact age value copied → n.entry.kind = .pad → n.entry.lane = some lane →
    n.entry.poolEnd = some place → n.entry.threshold ≤ value.toNat → PlacesFree copied.toNat s →
    n.entry.mode = .level ∨ n.run.contact = .below → s.heat.startTick = some start →
    s.heat.state = .running ∨ s.heat.state = .closing → s.lanes[lane].state = .swimming →
    let h := handed now s i { n with run := { n.run with contact := .above } } .contact age value copied
    let r := s.lanes[lane]
    let late := age == 4095
    let event := eventTick now n.entry.latency age
    let time := tickDiff event start
    let least : Int := 1000 * s.head.minLength
    let base : Int := r.lastTouch.getD 0
    place = (if s.head.lengths % 2 = 1 then .turn else .start) → time ≤ 1000000 * (s.head.heatLimit : Int) →
    ∀ before : LaneRecord,
    (r.lengthCount + 1 = s.head.lengths ∧ base + least ≤ time ∧ before = r)
      ∨ (r.lengthCount + 2 = s.head.lengths ∧ base + 2 * least ≤ time
        ∧ before = lengthAdded s.head start (r.lengthCount + 1) none r) →
    let last := lengthAdded s.head start s.head.lengths (some (event, late)) before
    ∃ t, exec (.deckAnswer now bytes) s = .next t
      ∧ t.lanes[lane] = { last with
          state := .finished, padFinish := some time
          exchanges := last.exchanges ++ (last.awaitingRelease.toList.map fun w => ⟨w.number, none, .notJudged⟩)
          awaitingRelease := none, pendingRelease := none, place := t.lanes[lane].place }
      ∧ (∀ other : Lane, other ≠ lane → t.lanes[other] = { s.lanes[other] with place := t.lanes[other].place })
      ∧ Placed .running t.lanes t.results.order ∧ t.results.revision = s.results.revision ∧ LampsFollowPlaces t
      ∧ Boosted h (fun l => l = lane) t.nodes
      ∧ (let closes := s.heat.state = .running
            ∧ ∀ l : Lane, t.lanes[l].state = .vacant ∨ t.lanes[l].state = .finished ∨ t.lanes[l].dq = true
         (closes → t.heat = ⟨.closing, some start⟩ ∧ t.clock = (closing now h).clock)
          ∧ (¬ closes → t.heat = s.heat ∧ t.clock = h.clock)
          ∧ (PlacesFree (14 + copied.toNat) s → ∃ queue changed,
              t.board.queue = queue ++ [splitSent s lane s.head.lengths time late, finishSent t lane]
                ++ ((placesMoved s t).filter fun l => l ≠ lane).map (placeSent t) ++ changed
              ∧ (closes → changed = heatAnnouncement (closing now h)) ∧ (¬ closes → changed = [])
              ∧ (tallyAlarms h.tally .touchAccepted (some lane) (some n.entry.station) = false →
                queue = h.board.queue.filter fun q => !isSplitOf (some (byteOf lane.val)) q)))
      ∧ t.filters = s.filters ∧ t.banks = s.banks ∧ t.settings = s.settings ∧ t.loader = s.loader
      ∧ t.orders = { h.orders with notices := t.orders.notices }

/-- A block's RELEASE: ignored in ARMED; a false start in MARKS on a WAITING lane; on a SWIMMING lane with no length the
reaction, EARLY when negative, or a duplicate; a stray wherever table 6-4 says so, and in an individual race after the
first length (R102 to R105). -/
def Obligations.ReleaseIsJudged : Prop :=
  ∀ (now : Tick) (bytes : List Byte) (s : State) (i : Fin 64) (n : Node) (age : Nat) (value : Byte) (lane : Lane)
    (copied : Bool),
    SoleItem s bytes i n .release age value copied → n.entry.kind = .block → n.entry.lane = some lane →
    PlacesFree (2 + copied.toNat) s →
    let h := handed now s i n .release age value copied
    let r := s.lanes[lane]
    let late := age == 4095
    let event := eventTick now n.entry.latency age
    let racing := s.heat.state = .running ∨ s.heat.state = .closing
    let Counted (why : TallyEvent) : Prop :=
      ∃ t, exec (.deckAnswer now bytes) s = .next t ∧ OnlyAnnounces h t
        ∧ t.tally = tallyAfter h.tally why (some lane) (some n.entry.station)
    let Raised (record : LaneRecord) : Prop :=
      ∃ t, exec (.deckAnswer now bytes) s = .next t ∧ OnlyAnnounces (withLane h lane record) t
        ∧ (t.notice .earlyRelease).status = true
    (s.heat.state = .armed → exec (.deckAnswer now bytes) s = .next h)
    ∧ (s.heat.state = .marks → r.state = .waiting → r.marksRelease = none →
        Raised { r with early := true, marksRelease := some ⟨event, late⟩ })
    ∧ (s.heat.state = .marks → r.state = .waiting → r.marksRelease ≠ none → Counted .releaseDup)
    ∧ (s.heat.state = .idle ∨ s.heat.state = .closed ∨ (s.heat.state = .marks ∧ r.state ≠ .waiting)
        ∨ (racing ∧ r.state ≠ .swimming) → Counted .releaseStray)
    ∧ ∀ start, s.heat.startTick = some start → racing → r.state = .swimming →
      let time := tickDiff event start
      (r.lengthCount = 0 → r.reaction = none → 0 ≤ time →
        exec (.deckAnswer now bytes) s = .next (withLane h lane
          { r with reaction := some time, late := r.late || late }))
      ∧ (r.lengthCount = 0 → r.reaction = none → time < 0 →
        Raised { r with reaction := some time, early := true, late := r.late || late })
      ∧ (r.lengthCount = 0 → r.reaction ≠ none → Counted .releaseDup)
      ∧ (1 ≤ r.lengthCount → s.head.legs ≤ 1 ∨ s.head.legs ≤ r.exchanges.length + 1 → Counted .releaseStray)

/-- A button's PRESS is tested in the order of table 6-7, each rejection counting PRESS_STRAY or PRESS_DUP and changing
nothing, PRESS_STRAY also in a heat that has no start tick; an accepted press appends its sample with its position, sets
LATE when late-stamped, and counts PRESS_ACCEPTED (R110, R111). In RUNNING and CLOSING with no start tick, which no run
reaches, a press is a stray by the model's choice (notes/assumptions/19.md). -/
def Obligations.PressIsJudged : Prop :=
  ∀ (now : Tick) (bytes : List Byte) (s : State) (i : Fin 64) (n : Node) (age : Nat) (value : Byte) (lane : Lane)
    (place : PoolEnd) (position : Nat) (copied : Bool),
    SoleItem s bytes i n .press age value copied → n.entry.kind = .button → n.entry.lane = some lane →
    n.entry.poolEnd = some place → n.entry.position = some position → PlacesFree (1 + copied.toNat) s →
    let h := handed now s i n .press age value copied
    let r := s.lanes[lane]
    let held := ∃ x ∈ r.samples, x.position = position
    let Judged (record : LaneRecord) (event : TallyEvent) : Prop :=
      ∃ t, exec (.deckAnswer now bytes) s = .next t ∧ OnlyAnnounces (withLane h lane record) t
        ∧ t.tally = tallyAfter h.tally event (some lane) (some n.entry.station)
    (s.heat.startTick = none → Judged r .pressStray)
    ∧ ∀ start, s.heat.startTick = some start →
      let time := tickDiff (eventTick now n.entry.latency age) start
      let stray :=
        ¬ ((s.heat.state = .running ∨ s.heat.state = .closing) ∧ (r.state = .swimming ∨ r.state = .finished))
        ∨ place ≠ (if s.head.lengths % 2 = 1 then .turn else .start)
        ∨ time < 1000 * (s.head.minLength : Int) ∨ 1000000 * (s.head.heatLimit : Int) < time
        ∨ (r.state = .swimming ∧ r.lengthCount + 1 < s.head.lengths
            ∧ (s.head.buttonArming = 0 ∨ time < 1000000 * (s.head.buttonArming : Int)))
      (stray → Judged r .pressStray)
      ∧ (¬ stray → held → Judged r .pressDup)
      ∧ (¬ stray → ¬ held →
        Judged { r with samples := r.samples ++ [⟨position, time⟩], late := r.late || age == 4095 } .pressAccepted)

/-- The verdict of a relay exchange does not depend on which report is taken first: the release before the touch or the
touch before the release leave the same lane record, whose new exchange carries release less touch and is EARLY exactly
when that is below the negative of the margin (R53, R106 to R108). -/
def Obligations.ExchangeOrderIndependent : Prop :=
  ∀ (s : State) (lane : Lane) (start touch release : Tick) (lateTouch lateRelease : Bool) (pad block : Byte),
    let r := s.lanes[lane]
    let leg := s.head.lengths / s.head.legs
    let n := r.lengthCount + 1
    let time := tickDiff touch start
    s.heat.state = .running ∨ s.heat.state = .closing → s.heat.startTick = some start → r.state = .swimming →
    1 < s.head.legs → 1 ≤ r.lengthCount → n % 2 = 0 → n % leg = 0 → n < s.head.lengths →
    r.exchanges.length + 1 < s.head.legs → r.pendingRelease = none → r.awaitingRelease = none →
    time ≤ 1000000 * (s.head.heatLimit : Int) → r.lastTouch.getD 0 + 1000 * (s.head.minLength : Int) ≤ time →
    let releaseFirst := takeTouch lane .start touch lateTouch pad (takeRelease lane release lateRelease block s)
    let touchFirst := takeRelease lane release lateRelease block (takeTouch lane .start touch lateTouch pad s)
    let difference := tickDiff release touch
    releaseFirst.lanes = touchFirst.lanes
      ∧ releaseFirst.lanes[lane] = { r with
          lengthCount := n, splits := r.splits ++ [⟨n, some time⟩], lastTouch := some time
          late := r.late || lateTouch || lateRelease
          exchanges := r.exchanges ++ [⟨n / leg, some difference,
            if difference < -(1000 * (s.head.exchangeMargin : Int)) then .early else .good⟩] }
      ∧ (difference < -(1000 * (s.head.exchangeMargin : Int)) →
          (releaseFirst.notice .earlyTakeoff).status = true ∧ (touchFirst.notice .earlyTakeoff).status = true)

/-! ### Results -/

/-- The backup time of three samples is the middle one in ascending order, of two the floor of half their sum, of one that
sample, of none absent; it never lies outside the range of the samples (R54). -/
def Obligations.BackupFusionRule : Prop :=
  backupTime [] = none
    ∧ (∀ a : Sample, backupTime [a] = some a.time)
    ∧ (∀ a b : Sample, ∃ t, backupTime [a, b] = some t ∧ 2 * t ≤ a.time + b.time ∧ a.time + b.time < 2 * t + 2)
    ∧ (∀ a b c low mid high : Sample, [a, b, c].Perm [low, mid, high] → low.time ≤ mid.time → mid.time ≤ high.time →
        backupTime [a, b, c] = some mid.time)
    ∧ ∀ (samples : List Sample) (t : Int), samples.length ≤ 3 → backupTime samples = some t →
        (∃ x ∈ samples, x.time ≤ t) ∧ ∃ x ∈ samples, t ≤ x.time

/-- The placing rule gives each taking part lane one more than the number of taking part lanes with strictly smaller
hundredths, every other lane no place, and rebuilds the finish order list by hundredths, full time and lane; it writes
nothing else (R114, R115). -/
def Obligations.PlacingRule : Prop :=
  ∀ s : State,
    Placed s.heat.state (runPlacing s).lanes (runPlacing s).results.order
      ∧ (∀ lane : Lane, (runPlacing s).lanes[lane] = { s.lanes[lane] with place := (runPlacing s).lanes[lane].place })
      ∧ runPlacing s = (s.setLanes (runPlacing s).lanes).setResults { s.results with order := (runPlacing s).results.order }

/-- The expiry of the button window closes a heat in CLOSING: each lane that has not finished becomes NO_TIME with its
open exchange NOT JUDGED; official times, sources and DISCREPANT flags are chosen, final places given, the revision set to
0; boosts are clear, the lamps follow the places, the result hold runs for a pending swap; and the board queue takes HEAT,
its NOTICE, a DISCREPANT NOTICE and the RESULTs in lane order (R69, R85, R109, R119 to R121). -/
def Obligations.ButtonWindowClosesHeat : Prop :=
  ∀ (now : Tick) (s : State) (window : Timer),
    s.heat.state = .closing → PlacesFree 13 s →
    (advanceTo now s).clock.buttonWindow = some window → window.span ≤ window.elapsed →
    let u := advanceTo now s
    let closed (r : LaneRecord) : LaneRecord :=
      if r.state = .vacant ∨ r.state = .finished then r
      else { r with
        state := .noTime, awaitingRelease := none, pendingRelease := none
        exchanges := r.exchanges ++ (r.awaitingRelease.toList.map fun w => ⟨w.number, none, .notJudged⟩) }
    let found (r : LaneRecord) : Bool :=
      match r.padFinish, backupTime r.samples with
      | some pad, some backup => decide (1000 * s.head.discrepancy < (pad - backup).natAbs)
      | _, _ => false
    let chosen (r : LaneRecord) : LaneRecord :=
      if r.state = .vacant then r
      else
        let r' := { r with discrepant := r.discrepant || found r }
        match r.padFinish, backupTime r.samples with
        | some pad, _ => { r' with official := some pad, source := .pad }
        | none, some backup => { r' with official := some backup, source := .backup }
        | none, none => { r' with official := none, source := .none }
    let someFound := allLanes.any fun lane => s.lanes[lane].state != .vacant && found s.lanes[lane]
    ∃ t, exec (.buttonWindowExpiry now) s = .next t
      ∧ (∀ lane : Lane, t.lanes[lane] = { chosen (closed s.lanes[lane]) with place := t.lanes[lane].place })
      ∧ Placed .closed t.lanes t.results.order ∧ t.results.revision = 0 ∧ LampsFollowPlaces t
      ∧ t.heat = { s.heat with state := .closed } ∧ t.nodes = (unboosted u).nodes
      ∧ t.clock = { u.clock with
          buttonWindow := none, clockStep := none
          resultHold := if s.banks.pendingSwap then some (freshTimer now (1000000 * s.head.resultHold))
            else u.clock.resultHold }
      ∧ t.board.queue = s.board.queue ++ heatAnnouncement (u.setHeat { s.heat with state := .closed })
          ++ (if someFound ∧ (s.notice .discrepant).status = false ∧ (s.notice .discrepant).enabled = true
                ∧ (s.notice .discrepant).direction = .board
              then [⟨127, s.settings.station, kindNotice, [5]⟩] else [])
          ++ (allLanes.filter fun lane => s.lanes[lane].state != .vacant).map (resultSent t)
      ∧ (t.notice .heatChange).status = true
      ∧ (t.notice .discrepant).status = ((s.notice .discrepant).status || someFound)
      ∧ t.banks = s.banks ∧ t.filters = s.filters ∧ t.settings = s.settings ∧ t.loader = s.loader ∧ t.tally = s.tally
      ∧ t.deck = { u.deck with queue := t.deck.queue }
      ∧ t.orders = { u.orders with notices := t.orders.notices }

/-! ### The board line -/

/-- A telegram offered to the board queue: a SPLIT first removes the SPLIT queued for its lane; it joins the tail when the
places taken, a reservation counted, are below 32; else the oldest CLOCK gives way, or with no CLOCK the oldest SPLIT, with
no tally and no notice; else it is discarded, BOARD_DISCARD counted and OVERRUN set (R133 to R135). -/
def Obligations.BoardInsertionRule : Prop :=
  ∀ (t : Telegram) (s : State),
    let queue := if t.kind = kindSplit then s.board.queue.filter fun q => !isSplitOf t.payload.head? q else s.board.queue
    let full := 32 ≤ queue.length + (if s.board.reserved then 1 else 0)
    let joined (q : List Telegram) : State := s.setBoard { s.board with queue := q ++ [t] }
    let taken (b : BoardTransmitter) : Nat := b.queue.length + (if b.reserved then 1 else 0)
    let splitsDiffer (b : BoardTransmitter) : Prop :=
      ((b.queue.filter fun q => q.kind == kindSplit).map fun q => q.payload.head?).Nodup
    (¬ full → offer t s = joined queue)
    ∧ (full → ∀ before oldest behind, queue = before ++ oldest :: behind → oldest.kind = kindClock →
        (∀ q ∈ before, q.kind ≠ kindClock) → offer t s = joined (before ++ behind))
    ∧ (full → (∀ q ∈ queue, q.kind ≠ kindClock) → ∀ before oldest behind, queue = before ++ oldest :: behind →
        oldest.kind = kindSplit → (∀ q ∈ before, q.kind ≠ kindSplit) → offer t s = joined (before ++ behind))
    ∧ (full → (∀ q ∈ s.board.queue, q.kind ≠ kindClock ∧ q.kind ≠ kindSplit) →
        OnlyAnnounces s (offer t s) ∧ (offer t s).board = s.board ∧ ((offer t s).notice .overrun).status = true
          ∧ ((s.notice .overrun).status = true → (s.notice .tallyOverflow).status = true →
              (offer t s).tally = tallyAfter s.tally .boardDiscard (discardLane t) (discardStation t)))
    ∧ (taken s.board ≤ 32 → splitsDiffer s.board →
        taken (offer t s).board ≤ 32 ∧ splitsDiffer (offer t s).board)

/-- BOARD_SEND takes the head of the board queue onto the idle pair, which is then busy for ten bit times a byte and the
quiet of 40 µs behind; while the pair is busy, or with nothing queued, it does nothing (R131, table 8-2). A board telegram
for another station joins the deck command queue as a pass-through when a loaded node entry holds its destination, its kind
is 128 to 255 and fewer than four such are queued; otherwise it is discarded and counts PASS_DISCARD with its destination
as station (R19, R140). That the telegram keeps its sender's source until it is sent is the model's reading
(notes/assumptions/11.md), and that BOARD_SEND without its occasion moves time alone its choice
(notes/assumptions/2.md). -/
def Obligations.BoardLineMovesTelegrams : Prop :=
  (∀ (now : Tick) (s : State),
      let u := advanceTo now s
      let idle := ∀ b, u.board.busy = some b → b.span ≤ b.elapsed
      (∀ t rest, s.board.queue = t :: rest → idle → exec (.boardSend now) s = .next (u.setBoard { u.board with
          queue := rest, line := some t, busy := some (freshTimer now (10 * (6 + t.payload.length) + 40)) }))
      ∧ (s.board.queue = [] ∨ ¬ idle → exec (.boardSend now) s = .next u))
    ∧ (∀ (now : Tick) (dest src kind : Byte) (payload : List Byte) (s : State), dest ≠ s.settings.station → PlacesFree 1 s →
      let u := advanceTo now s
      let passes := (∃ (i : Fin 64) (n : Node), s.nodes[i] = some n ∧ n.entry.station = dest) ∧ 128 ≤ kind.toNat
      let queued := (s.deck.queue.filter fun e => e.origin == .passThrough).length
      (passes → queued < 4 → exec (.passThrough now dest src kind payload) s = .next (u.setDeck { u.deck with
          queue := s.deck.queue ++ [⟨.passThrough, ⟨dest, src, kind, payload⟩⟩] }))
      ∧ (¬ passes ∨ 4 ≤ queued → ∃ t, exec (.passThrough now dest src kind payload) s = .next t ∧ OnlyAnnounces u t
          ∧ t.tally = tallyAfter s.tally .passDiscard none (some dest)))

/-- A tally event counts on exactly the enabled counters that select it and whose lane and station masks it meets, as the
running unit stands when it is taken; a count of 16,777,215 becomes 0 with the overflow flag set, and freezes the unit
when freeze-on-overflow is set; a frozen unit counts nothing (R169, R170). The three bad board telegrams count BAD_CHECK
with no lane and no station, and do nothing else (R1, R5, R6). -/
def Obligations.TallyEventsCount : Prop :=
  (∀ (t : TallyUnit) (e : TallyEvent) (lane : Option Lane) (station : Option Byte),
    (t.frozen = true → tallyAfter t e lane station = t)
    ∧ (t.frozen = false →
      let t' := tallyAfter t e lane station
      (∀ i : Fin 8, (¬ CountsOn t.counters[i] e lane station → t'.counters[i] = t.counters[i])
        ∧ (CountsOn t.counters[i] e lane station → t'.counters[i] = { t.counters[i] with
            count := BitVec.ofNat 24 ((t.counters[i].count.toNat + 1) % 16777216)
            overflow := t.counters[i].overflow || t.counters[i].count == 16777215 }))
      ∧ t'.freezeOnOverflow = t.freezeOnOverflow
      ∧ (t'.frozen = true ↔ t.freezeOnOverflow = true
          ∧ ∃ i : Fin 8, CountsOn t.counters[i] e lane station ∧ t.counters[i].count = 16777215)))
    ∧ ∀ (now : Tick) (src kind : Byte) (payload : List Byte) (s : State), PlacesFree 1 s →
      ∃ t, exec (.boardBadTelegram now) s = .next t ∧ exec (.shortOrder now src payload) s = .next t
        ∧ exec (.boardNonOrder now src kind payload) s = .next t ∧ OnlyAnnounces (advanceTo now s) t
        ∧ t.tally = tallyAfter s.tally .badCheck none none
        ∧ ((∃ i : Fin 8, s.tally.frozen = false ∧ CountsOn s.tally.counters[i] .badCheck none none
            ∧ s.tally.counters[i].count = 16777215 ∧ s.tally.counters[i].overflowNotice = true) →
            (t.notice .tallyOverflow).status = true)

/-- The bytes a console sends for a well-formed order, short order, other telegram or pass-through are what the module's
receiver reads back as that very command, check and all (R1 to R6, tables 1-1 to 1-5). -/
def Obligations.BoardFrameSpellsCommand : Prop :=
  ∀ (station : Byte) (now : Tick) (c : Instr) (bytes : List Byte),
    isStation station = true → WellFormed c = true → commandTick c = some now →
    (∀ tick dest src kind payload, c = .passThrough tick dest src kind payload → dest ≠ station) →
    boardFrame station c = some bytes → boardCommand station now bytes = c

/-! ### Taking an order -/

/-- Tests 2 to 4 of R150 answer a console order before anything of its own: NOTREADY during the load, and for an order
other than RELH in HOLD; REFUSED 13 for a code not in table 1-5; REFUSED 14 for a body of another length than the order's.
Nothing but the board queue changes. An ORDER of the panel, in the answer to its POLL, meets the same tests and test 5,
REFUSED 15 for NQRY and RELH, and its RESPONSE joins the deck command queue for the panel's station (R9, R10, R19). That
an order answered at these tests starts no timer again is the model's reading (notes/assumptions/14.md). -/
def Obligations.EarlyTestsAnswerOrders : Prop :=
  (∀ (now : Tick) (src tag : Byte) (body : List Byte) (s : State) (room : List Telegram), PlaceMade s room →
    let u := advanceTo now s
    (∀ code : OrderCode,
      let c := orderCommand now src (byteOf (orderNumber code)) tag body
      (s.loader.load = .loading ∨ (s.loader.hold = true ∧ code ≠ .relh) →
        exec c s = .next (answered u room (response s src tag code .notReady 0 [])))
      ∧ (s.loader.load = .done → (s.loader.hold = true → code = .relh) → lengthSuits code body.length = false →
        exec c s = .next (answered u room (response s src tag code .refused 14 []))))
    ∧ ∀ code : Byte, orderOfNumber code.toNat = none →
      let answer (status reason : Byte) : Telegram := ⟨src, s.settings.station, kindResponse, [code, tag, status, reason]⟩
      orderCommand now src code tag body = .orderUnknownCode now src tag code body
      ∧ (¬ Serving s → exec (.orderUnknownCode now src tag code body) s = .next (answered u room (answer 2 0)))
      ∧ (Serving s → exec (.orderUnknownCode now src tag code body) s = .next (answered u room (answer 4 13))))
  ∧ ∀ (now : Tick) (bytes : List Byte) (s : State) (i : Fin 64) (n : Node) (code tag : Byte) (body : List Byte),
    PanelSends s bytes i n code tag body →
    let Replied (status reason : Byte) : Prop := exec (.deckAnswer now bytes) s =
      .next (panelAnswered (heard now s i n) n [code, tag, status, reason])
    (s.loader.load = .loading ∨ (s.loader.hold = true ∧ code ≠ 9) → Replied 2 0)
    ∧ (Serving s → orderOfNumber code.toNat = none → Replied 4 13)
    ∧ ∀ order : OrderCode, code = byteOf (orderNumber order) →
      s.loader.load = .done → (s.loader.hold = true → order = .relh) →
      (lengthSuits order body.length = false → Replied 4 14)
      ∧ (lengthSuits order body.length = true → order = .nqry ∨ order = .relh → Replied 4 15)

/-- A console order that finds the board queue full of essential telegrams is not taken: no block changes but the notices
and the tallies, the queue stands as it was, BOARD_DISCARD is counted with the order's source as station and OVERRUN is
set. A TRST is so refused only when one of tests 2 to 6 would answer it (R137 to R139). -/
def Obligations.OrderWithoutPlaceIsNotTaken : Prop :=
  ∀ (now : Tick) (src code tag : Byte) (body : List Byte) (s : State),
    makeRoom s.board.reserved s.board.queue = none →
    (code = 26 → ¬ Serving s ∨ body ≠ [] ∨ s.orders.owner = .panel) →
    ∃ t, exec (orderCommand now src code tag body) s = .next t ∧ OnlyAnnounces (advanceTo now s) t
      ∧ t.board = (advanceTo now s).board ∧ (t.notice .overrun).status = true
      ∧ ((s.notice .overrun).status = true → (s.notice .tallyOverflow).status = true →
          t.tally = tallyAfter s.tally .boardDiscard none (some src))

/-- A channel-needing order of the console while PANEL owns the channel is answered RETRY and acts on the console's claim
alone: it registers one for 1 s, with the handover timer at 50 ms unless a load chain is open, or renews the live one and
leaves the handover timer as it runs (R150 test 6, R153). The panel's order while CONSOLE owns the channel claims it in the
same way, its RESPONSE joining the deck command queue; while PANEL owns it, its END HEAT is served as its owner's, here
with no heat to end (R81, R154, R156). -/
def Obligations.NonOwnerRegistersClaim : Prop :=
  (∀ (now : Tick) (src tag : Byte) (code : OrderCode) (body : List Byte) (s : State) (room : List Telegram),
    Serving s → s.orders.owner = .panel → needsChannel code = true → lengthSuits code body.length = true →
    PlaceMade s room →
    let u := advanceTo now s
    exec (orderCommand now src (byteOf (orderNumber code)) tag body) s = .next (answered (u.setOrders { u.orders with
        claim := some (freshTimer now 1000000)
        handover := if s.orders.claim = none ∧ s.orders.chain = none then some (freshTimer now 50000)
          else u.orders.handover })
      room (response s src tag code .retry 0 [])))
  ∧ ∀ (now : Tick) (bytes : List Byte) (s : State) (i : Fin 64) (n : Node) (order : OrderCode) (tag : Byte)
    (body : List Byte),
    PanelSends s bytes i n (byteOf (orderNumber order)) tag body → Serving s → needsChannel order = true →
    lengthSuits order body.length = true →
    let h := heard now s i n
    (s.orders.owner = .console → exec (.deckAnswer now bytes) s = .next (panelAnswered (h.setOrders { h.orders with
        claim := some (freshTimer now 1000000)
        handover := if s.orders.claim = none ∧ s.orders.chain = none then some (freshTimer now 50000)
          else h.orders.handover }) n [byteOf (orderNumber order), tag, 1, 0]))
    ∧ (s.orders.owner = .panel → order = .endh → s.heat.state = .idle →
      exec (.deckAnswer now bytes) s = .next (panelAnswered (h.setOrders { h.orders with
        handover := if s.orders.claim ≠ none ∧ s.orders.chain = none then some (freshTimer now 50000)
          else h.orders.handover
        home := if s.settings.mode = .home ∧ s.orders.chain = none then some (freshTimer now 2000000)
          else h.orders.home }) n [18, tag, 3, 0]))

/-! ### Reading orders -/

/-- STAT answers the 23 bytes of table 10-3 from the state as it stands, and changes nothing (R151). -/
def Obligations.StatReportsStatus : Prop :=
  ∀ (now : Tick) (src tag : Byte) (s : State) (room : List Telegram),
    Serving s → PlaceMade s room → s.results.order.length ≤ 10 →
    ∃ body, exec (.stat now src tag []) s =
        .next (answered (advanceTo now s) room (response s src tag .stat .ok 0 body))
      ∧ body.length = 23
      ∧ byteAt body 0 = byteOf (heatCode s.heat.state)
      ∧ byteAt body 1 = flagByte [s.banks.active == .b, s.banks.pendingSwap, s.banks.a.head.isNone,
          s.banks.b.head.isNone, s.heat.startTick.isSome]
      ∧ byteAt body 2 = byteOf s.results.revision
      ∧ (∀ k : Nat, k < 10 → byteAt body (3 + k) =
          match s.results.order[k]? with
          | some lane => byteOf lane.val
          | none => 255)
      ∧ byteAt body 13 = byteOf room.length ∧ byteAt body 14 = byteOf s.deck.queue.length
      ∧ (byteAt body 15 = 0 ↔ s.orders.owner = .console) ∧ (byteAt body 15 = 1 ↔ s.orders.owner = .panel)
      ∧ byteAt body 16 = flagByte [s.orders.claim.isSome]
      ∧ byteAt body 17 = byteOf ((s.orders.chain.map fun c => tableNumber c.table).getD 0)
      ∧ byteAt body 18 = byteOf (slotCode s.orders.slot)
      ∧ (∀ k : Fin 12, (byteAt body 19 ++ byteAt body 20).getLsbD k = s.orders.notices[k].status)
      ∧ (byteAt body 21 = 0 ↔ s.settings.mode = .park) ∧ (byteAt body 21 = 1 ↔ s.settings.mode = .home)
      ∧ byteAt body 22 = s.settings.station

/-- LANE answers a lane's head page, or a page of up to eight splits from the index asked up to the length count; NODATA
above the length count, REFUSED 1 for a lane above 9. It changes nothing (R151, table 10-3). The 0 of a field without a
value is the model's reading where the table does not say it (notes/assumptions/10.md). -/
def Obligations.LaneReportsRecord : Prop :=
  ∀ (now : Tick) (src tag lane index : Byte) (s : State) (room : List Telegram), Serving s → PlaceMade s room →
    let Answer (status : Status) (reason : Nat) (body : List Byte) : Prop :=
      exec (.lane now src tag [lane, index]) s =
        .next (answered (advanceTo now s) room (response s src tag .lane status reason body))
    let time (t : Option Int) : List Byte := int32 (t.getD 0)
    (9 < lane.toNat → Answer .refused 1 [])
    ∧ ∀ l : Lane, lane = byteOf l.val →
      let r := s.lanes[l]
      let sample (k : Nat) : List Byte :=
        match r.samples[k]? with
        | some x => byteOf x.position :: int32 x.time
        | none => [0, 0, 0, 0, 0]
      let exchange (k : Nat) : Option Exchange := r.exchanges.find? fun x => x.number == k
      let verdict (k : Nat) : Byte := ((exchange k).map fun x => byteOf (verdictCode x.verdict)).getD 0
      let difference (k : Nat) : List Byte := int16 (reportedDifference ((exchange k).bind fun x => x.difference))
      (index = 0 → Answer .ok 0 ([lane, byteOf (laneStateCode r.state), byteOf r.lengthCount,
          flagByte [r.reaction.isSome, r.early, r.late, r.dq, r.discrepant, r.padFinish.isSome, r.official.isSome,
            r.pendingRelease.isSome || r.awaitingRelease.isSome],
          byteOf (r.place.getD 0), byteOf (sourceCode r.source)] ++ be16 r.competitor
        ++ int16 (reportedReaction r.reaction) ++ time r.padFinish ++ time r.official ++ [byteOf r.samples.length]
        ++ sample 0 ++ sample 1 ++ sample 2 ++ [verdict 1, verdict 2, verdict 3]
        ++ difference 1 ++ difference 2 ++ difference 3))
      ∧ (r.lengthCount < index.toNat → Answer .noData 0 [])
      ∧ (1 ≤ index.toNat → index.toNat ≤ r.lengthCount → r.splits.length = r.lengthCount →
        ∃ page, Answer .ok 0 ([lane, index, byteOf (min 8 (r.lengthCount + 1 - index.toNat)), 0] ++ page)
          ∧ page.length = 5 * min 8 (r.lengthCount + 1 - index.toNat)
          ∧ ∀ (k : Nat) (x : Split), k < 8 → r.splits[index.toNat - 1 + k]? = some x →
              (page.drop (5 * k)).take 5 = flagByte [x.time.isSome] :: time x.time)

/-- TREAD answers the entries of a table from the start index on, in the read form of table 10-4, byte for byte: as many
as are asked, as the table has, or as 40 bytes hold, OK when that is what was asked and TRUNC otherwise; REFUSED 1 for an
unknown table, 2 for a start beyond it or a bank other than ACTIVE and STANDBY. It changes nothing (R63, R151). The marks
read as 1 and the fields without a value as 0 are the model's reading where the table does not say it
(notes/assumptions/10.md), and the byte of an end none is a free value (notes/assumptions/9.md). -/
def Obligations.TreadReportsEntries : Prop :=
  ∀ (now : Tick) (src tag table which start asked : Byte) (s : State) (room : List Telegram),
    Serving s → PlaceMade s room →
    let Answer (status : Status) (reason : Nat) (body : List Byte) : Prop :=
      exec (.tread now src tag [table, which, start, asked]) s =
        .next (answered (advanceTo now s) room (response s src tag .tread status reason body))
    (tableOf table.toNat = none → Answer .refused 1 [])
    ∧ ∀ code : TableCode, table = byteOf (tableNumber code) →
      (tableSize code ≤ start.toNat ∨ (code = .bank ∧ 1 < which.toNat) → Answer .refused 2 [])
      ∧ (start.toNat < tableSize code → (code = .bank → which.toNat ≤ 1) →
        let bank := if code = .bank ∧ which = 1 then s.standbyBank else s.activeBank
        ∃ (form : Nat → List Byte) (n : Nat), (∀ k, ReadForm s bank code k (form k)) ∧
          let entries (n : Nat) : List Byte := (List.range n).flatMap fun k => form (start.toNat + k)
          Answer (if n = asked.toNat then .ok else .trunc) 0 ([table, start, byteOf n, 0] ++ entries n)
          ∧ n ≤ asked.toNat ∧ start.toNat + n ≤ tableSize code ∧ (entries n).length ≤ 40
          ∧ (n = asked.toNat ∨ start.toNat + n = tableSize code ∨ 40 < (entries (n + 1)).length))

/-- TREAD-TALLY answers the two unit-wide fields and ten bytes a counter, from the first named up to the number asked, the
last counter, or four; OK when it returns the number asked, TRUNC otherwise, REFUSED 1 above 7. It changes nothing
(R173). That a first counter above 7 is refused also with the number 0 is the model's choice
(notes/assumptions/23.md). -/
def Obligations.TreadTallyReportsCounters : Prop :=
  ∀ (now : Tick) (src tag first asked : Byte) (s : State) (room : List Telegram), Serving s → PlaceMade s room →
    let Answer (status : Status) (reason : Nat) (body : List Byte) : Prop :=
      exec (.treadTally now src tag [first, asked]) s =
        .next (answered (advanceTo now s) room (response s src tag .treadTally status reason body))
    (7 < first.toNat → Answer .refused 1 [])
    ∧ (first.toNat ≤ 7 →
      let n := min (min asked.toNat 4) (8 - first.toNat)
      ∃ page, Answer (if n = asked.toNat then .ok else .trunc) 0
          ([flagByte [s.tally.frozen], flagByte [s.tally.freezeOnOverflow]] ++ page)
        ∧ page.length = 10 * n
        ∧ ∀ i : Fin 8, first.toNat ≤ i.val → i.val < first.toNat + n →
          let c := s.tally.counters[i]
          (page.drop (10 * (i.val - first.toNat))).take 10 =
            [byteOf i.val, byteOf c.select] ++ be16 (c.laneMask.setWidth 16) ++ [c.stationValue, c.stationMask,
              flagByte [c.enabled, c.overflowNotice, c.overflow]] ++ be24 c.count)

/-! ### Orders that do not need the channel -/

/-- MAILW of the console replaces the eight bytes of a mailbox, and raises MAILBOX, toward PANEL, exactly when the mailbox
goes from console to panel and the notice's direction is PANEL; MAILR answers them and changes nothing; a mailbox above 3
is REFUSED 1 (R164). The panel's orders act from the other side, and are answered on the deck line: its MAILW raises MAILBOX
exactly when the mailbox goes from panel to console and the notice's direction is BOARD (R10, R19). -/
def Obligations.MailboxesHoldTheirBytes : Prop :=
  (∀ (now : Tick) (src tag box : Byte) (data : Vector Byte 8) (s : State) (room : List Telegram),
    Serving s → PlaceMade s room →
    let u := advanceTo now s
    (3 < box.toNat →
      exec (.mailr now src tag [box]) s = .next (answered u room (response s src tag .mailr .refused 1 []))
      ∧ exec (.mailw now src tag (box :: data.toList)) s =
          .next (answered u room (response s src tag .mailw .refused 1 [])))
    ∧ ∀ m : Fin 4, box = byteOf m.val →
      let stored := u.setOrders { u.orders with mailboxes := s.orders.mailboxes.set m data }
      let toPanel := s.settings.toConsole[m] = false ∧ (s.notice .mailbox).direction = .panel
      exec (.mailr now src tag [box]) s =
        .next (answered u room (response s src tag .mailr .ok 0 s.orders.mailboxes[m].toList))
      ∧ (toPanel → exec (.mailw now src tag (box :: data.toList)) s =
          .next (answered (setStatus .mailbox true stored) room (response s src tag .mailw .ok 0 [])))
      ∧ (¬ toPanel → exec (.mailw now src tag (box :: data.toList)) s =
          .next (answered stored room (response s src tag .mailw .ok 0 []))))
  ∧ ∀ (now : Tick) (bytes : List Byte) (s : State) (i : Fin 64) (n : Node) (tag : Byte) (m : Fin 4) (data : Vector Byte 8),
    Serving s →
    let h := heard now s i n
    (PanelSends s bytes i n 5 tag [byteOf m.val] → exec (.deckAnswer now bytes) s =
      .next (panelAnswered h n ([5, tag, 0, 0] ++ s.orders.mailboxes[m].toList)))
    ∧ (PanelSends s bytes i n 6 tag (byteOf m.val :: data.toList) → PlacesFree 1 s →
      let stored := h.setOrders { h.orders with mailboxes := s.orders.mailboxes.set m data }
      let toBoard := s.settings.toConsole[m] = true ∧ (s.notice .mailbox).direction = .board
      (toBoard → exec (.deckAnswer now bytes) s = .next (panelAnswered ((setStatus .mailbox true stored).setBoard
          { h.board with queue := s.board.queue ++ noticeSent s .mailbox 7 }) n [6, tag, 0, 0]))
      ∧ (¬ toBoard → exec (.deckAnswer now bytes) s = .next (panelAnswered stored n [6, tag, 0, 0])))

/-- NCLR of the console clears each named status that is directed to BOARD, but not NODE_LOST while a loaded entry is
ABSENT, and answers all twelve statuses as they stand after it (R166). -/
def Obligations.NclrClearsBoardNotices : Prop :=
  ∀ (now : Tick) (src tag high low : Byte) (s : State) (room : List Telegram), Serving s → PlaceMade s room →
    let u := advanceTo now s
    let lost := ∃ (i : Fin 64) (n : Node), s.nodes[i] = some n ∧ n.run.presence = .absent
    ∃ (notices : Vector Notice 12) (h l : Byte),
      exec (.nclr now src tag [high, low]) s = .next (answered (u.setOrders { u.orders with notices := notices })
        room (response s src tag .nclr .ok 0 [h, l]))
      ∧ (∀ k : Fin 12,
          let clears := (high ++ low).getLsbD k = true ∧ s.orders.notices[k].direction = .board ∧ ¬ (k = 0 ∧ lost)
          (clears → notices[k] = { s.orders.notices[k] with status := false })
            ∧ (¬ clears → notices[k] = s.orders.notices[k]))
      ∧ ∀ b : Nat, b < 16 → (h ++ l).getLsbD b = if hb : b < 12 then notices[b].status else false

/-- NQRY starts, waits on or collects the node query by the slot's state: REFUSED 1 for a station no entry holds; in FREE
a QUERY for a PRESENT station and RETRY, else NORESP; in WAITING and HELD, the same NQRY waits or collects its result and
frees the slot, another is answered RETRY or, for a station not PRESENT, NORESP (R161, R163, table 10-5). -/
def Obligations.NodeQueryOrder : Prop :=
  ∀ (now : Tick) (src tag station : Byte) (query : List Byte) (s : State) (room : List Telegram),
    Serving s → PlaceMade s room → query.length ≤ 43 → NodeLaw s →
    let u := advanceTo now s
    let Answered (t : State) (status : Status) (reason : Nat) (body : List Byte) : Prop :=
      exec (.nqry now src tag (station :: query)) s =
        .next (answered t room (response s src tag .nqry status reason body))
    ((∀ (i : Fin 64) (n : Node), s.nodes[i] = some n → n.entry.station ≠ station) → Answered u .refused 1 [])
    ∧ ∀ (i : Fin 64) (n : Node), s.nodes[i] = some n → n.entry.station = station →
      let present := n.run.presence = .present
      (s.orders.slot = .free → present → Answered
        ((u.setOrders { u.orders with slot := .waiting ⟨station, query⟩ none }).setDeck { u.deck with
          queue := s.deck.queue ++ [⟨.query, ⟨station, s.settings.station, kindQuery, query⟩⟩] }) .retry 0 [])
      ∧ (s.orders.slot = .free → ¬ present → Answered u .noResp 0 [station])
      ∧ (∀ timer, s.orders.slot = .waiting ⟨station, query⟩ timer → Answered u .retry 0 [])
      ∧ (∀ payload timer, s.orders.slot = .held ⟨station, query⟩ (.answer payload) timer →
        Answered (u.setOrders { u.orders with slot := .free }) (if payload.length ≤ 43 then .ok else .trunc) 0
          (station :: payload.take 43))
      ∧ (∀ timer, s.orders.slot = .held ⟨station, query⟩ .noResponse timer →
        Answered (u.setOrders { u.orders with slot := .free }) .noResp 0 [station])
      ∧ ∀ q : Query, q ≠ ⟨station, query⟩ →
        ((∃ timer, s.orders.slot = .waiting q timer) ∨ ∃ result timer, s.orders.slot = .held q result timer) →
        (present → Answered u .retry 0 []) ∧ (¬ present → Answered u .noResp 0 [station])

/-- RELH of the console, taken once the load is DONE, is answered OK and ends HOLD; it changes nothing else (R176). CREL of
the console by table 10-4a: BUSY from an owner with an open chain; an owner passes the channel to a live claimant at once;
a claimant withdraws its claim; otherwise nothing changes. OK carries the owner that results (R155, R156). -/
def Obligations.RelhAndCrelGiveWay : Prop :=
  (∀ (now : Tick) (src tag : Byte) (s : State) (room : List Telegram), s.loader.load = .done → PlaceMade s room →
      exec (.relh now src tag []) s = .next (answered
        ((advanceTo now s).setLoader { s.loader with hold := false }) room (response s src tag .relh .ok 0 [])))
    ∧ (∀ (now : Tick) (src tag : Byte) (s : State) (room : List Telegram), Serving s → PlaceMade s room →
      let u := advanceTo now s
      let Answered (o : OrderHandler) (status : Status) (body : List Byte) : Prop :=
        exec (.crel now src tag []) s = .next (answered (u.setOrders o) room (response s src tag .crel status 0 body))
      (s.orders.owner = .console → s.orders.chain ≠ none → Answered u.orders .busy [])
      ∧ (s.orders.owner = .console → s.orders.chain = none → s.orders.claim ≠ none → Answered { u.orders with
          owner := .panel, claim := none, handover := none
          home := if s.settings.mode = .home then some (freshTimer now 2000000) else none } .ok [1])
      ∧ (s.orders.owner = .console → s.orders.chain = none → s.orders.claim = none → Answered u.orders .ok [0])
      ∧ (s.orders.owner = .panel → s.orders.claim ≠ none →
          Answered { u.orders with claim := none, handover := none } .ok [1])
      ∧ (s.orders.owner = .panel → s.orders.claim = none → Answered u.orders .ok [1]))

/-! ### Loading tables -/

/-- TLOAD with no chain open: a chain mark other than 0 and 1 is REFUSED 4 and a continuation REFUSED 3; a first telegram
is REFUSED 1 for an unknown table and 2 for a range beyond it, BUSY for the locked bank or, in MARKS, RUNNING and CLOSING,
for nodes and patterns, and REFUSED 14 for entries that do not divide. Nothing is written and no chain opens; a first
telegram refused aborts the chain that was open (R62, R157 to R159). That the whole entries are tested last is the model's
reading (notes/assumptions/15.md). -/
def Obligations.TloadRefusals : Prop :=
  ∀ (now : Tick) (src tag mark table start total : Byte) (entries : List Byte) (s : State) (room : List Telegram),
    ConsoleServed s → PlaceMade s room → entries.length ≤ 40 →
    let v := ownerTurn now s
    let body := mark :: table :: start :: total :: entries
    let Answered (c : Instr) (t : State) (status : Status) (reason : Nat) : Prop :=
      exec c s = .next (answered t room (response s src tag .tload status reason []))
    let first := Instr.tloadFirst now src tag body
    let aborted := if s.orders.chain.isSome then v.setOrders { v.orders with
      chain := none
      handover := if s.orders.claim.isSome then some (freshTimer now 50000) else v.orders.handover } else v
    let racing := s.heat.state = .marks ∨ s.heat.state = .running ∨ s.heat.state = .closing
    (mark ≠ 0 → mark ≠ 1 → Answered first v .refused 4)
    ∧ (mark = 0 → s.orders.chain = none → Answered (.tloadContinuation now src tag body) v .refused 3)
    ∧ (mark = 1 → tableOf table.toNat = none → Answered first aborted .refused 1)
    ∧ ∀ code : TableCode, mark = 1 → table = byteOf (tableNumber code) →
      let busy := (code = .bank ∧ s.banks.pendingSwap = true) ∨ ((code = .nodes ∨ code = .patterns) ∧ racing)
      (tableSize code < start.toNat + total.toNat → Answered first aborted .refused 2)
      ∧ (start.toNat + total.toNat ≤ tableSize code → busy → Answered first aborted .busy 0)
      ∧ (start.toNat + total.toNat ≤ tableSize code → ¬ busy →
          (code = .nodes ∧ entries.length % 10 ≠ 0) ∨ (code = .filters ∧ entries.length % 5 ≠ 0) →
          Answered first aborted .refused 14)

/-- The life of a load chain, shown on the notices table, which refuses nothing: a first telegram opens it, each telegram
writes its entries at the next index and starts the 100 ms gap timer again, entries beyond the total are dropped with
TRUNC, and the chain closes with its last entry; while it is open the handover and home timers are stopped, and at its
close the handover timer starts when a claim is live (R157 to R159). -/
def Obligations.LoadChainWritesNotices : Prop :=
  ∀ (now : Tick) (src tag first total x y z : Byte) (entries : List Byte) (s : State) (room : List Telegram),
    ConsoleServed s → PlaceMade s room → entries.length ≤ 40 →
    let v := ownerTurn now s
    let Written (c : Instr) (start toCome : Nat) (handover home : Option Timer) : Prop :=
      let n := min entries.length toCome
      let closes := n = toCome
      ∃ notices : Vector Notice 12,
        (∀ k : Fin 12, notices[k] =
          if start ≤ k.val ∧ k.val < start + n then
            { s.orders.notices[k] with
              enabled := (entries.getD (k.val - start) 0).getLsbD 0
              direction := if (entries.getD (k.val - start) 0).getLsbD 1 then .panel else .board }
          else s.orders.notices[k])
        ∧ exec c s = .next (answered (v.setOrders { v.orders with
            notices := notices
            chain := if closes then none else some ⟨.notices, start + n, toCome - n, freshTimer now 100000⟩
            handover := if closes ∧ s.orders.claim.isSome then some (freshTimer now 50000) else handover
            home := home })
          room (response s src tag .tload (if toCome < entries.length then .trunc else .ok) 0
            [byteOf n, 0, 255, if closes then 255 else byteOf (start + n)]))
    (s.orders.chain = none → first.toNat + total.toNat ≤ 12 →
      Written (.tloadFirst now src tag ([1, 5, first, total] ++ entries)) first.toNat total.toNat none none)
    ∧ ∀ (next toCome : Nat) (gap : Timer), s.orders.chain = some ⟨.notices, next, toCome, gap⟩ → next + toCome ≤ 12 →
      Written (.tloadContinuation now src tag ([0, x, y, z] ++ entries)) next toCome v.orders.handover v.orders.home

/-- A node entry write: loaded byte 0 empties the entry; a loading write is accepted under the conditions of R23, stored
clamped and without what its kind does not use, with its runtime fields at their start values; a refused one leaves the
entry as it was and is counted in the RESPONSE. Leaving no ABSENT entry clears NODE_LOST (R11, R22 to R24, R158). -/
def Obligations.NodeWriteRule : Prop :=
  ∀ (now : Tick) (src tag : Byte) (i : Fin 64) (e : List Byte) (s : State) (room : List Telegram),
    ConsoleServed s → PlaceMade s room → s.orders.chain = none → e.length = 10 →
    s.heat.state = .idle ∨ s.heat.state = .armed ∨ s.heat.state = .closed →
    let v := loadedTurn now s
    let lost (nodes : NodeTable) : Prop := ∃ (j : Fin 64) (m : Node), nodes[j] = some m ∧ m.run.presence = .absent
    let Answered (t : State) (body : List Byte) : Prop :=
      exec (.tloadFirst now src tag ([1, 1, byteOf i.val, 1] ++ e)) s =
        .next (answered t room (response s src tag .tload .ok 0 body))
    let Stands (entry : Option Node) : Prop :=
      let w := v.setNodes (s.nodes.set i entry)
      (lost s.nodes ∧ ¬ lost w.nodes → Answered (setStatus .nodeLost false w) [1, 0, 255, 255])
        ∧ (¬ (lost s.nodes ∧ ¬ lost w.nodes) → Answered w [1, 0, 255, 255])
    (byteAt e 0 = 0 → Stands none)
    ∧ (byteAt e 0 ≠ 0 → NodeAccepted s i e →
        ∃ entry, NodeStored e entry ∧ Stands (some ⟨entry, ⟨.unknown, 0, 0, false, .below⟩⟩))
    ∧ (byteAt e 0 ≠ 0 → ¬ NodeAccepted s i e → Answered v [0, 1, byteOf i.val, 255])

/-- Writes of the filter table, of the standby bank and of the place patterns: a filter entry is refused only for its action;
a heat head for its event or heat number, its limits stored clamped and lengths and legs as written; a lane entry never; a
first byte of 0 empties; the active bank is not written (R36, R58 to R61). A pattern is refused only for its force; its
period and edges are staged clamped, the force is set at once, and the lanes assigned to it are evaluated, with the live
set as it was (R142, R146). -/
def Obligations.FilterAndBankWrites : Prop :=
  ∀ (now : Tick) (src tag : Byte) (e : List Byte) (s : State) (room : List Telegram),
    ConsoleServed s → PlaceMade s room → s.orders.chain = none →
    let v := loadedTurn now s
    let b (k : Nat) : Byte := byteAt e k
    let wide (k : Nat) : Nat := 256 * (b k).toNat + (b (k + 1)).toNat
    let Answered (table index : Byte) (t : State) (body : List Byte) : Prop :=
      exec (.tloadFirst now src tag ([1, table, index, 1] ++ e)) s =
        .next (answered t room (response s src tag .tload .ok 0 body))
    let bankWith (bank : Bank) : BankStore := match s.banks.active with
      | .a => { s.banks with b := bank }
      | .b => { s.banks with a := bank }
    let numbered := 1 ≤ wide 1 ∧ wide 1 ≤ 9999 ∧ 1 ≤ (b 3).toNat ∧ (b 3).toNat ≤ 99
    (∀ i : Fin 16, e.length = 5 →
      (b 0 = 0 → Answered 2 (byteOf i.val) (v.setFilters (s.filters.set i none)) [1, 0, 255, 255])
      ∧ (b 0 ≠ 0 → 3 < (b 4).toNat → Answered 2 (byteOf i.val) v [0, 1, byteOf i.val, 255])
      ∧ (b 0 ≠ 0 → ∀ action, (b 4).toNat = actionCode action → Answered 2 (byteOf i.val) (v.setFilters (s.filters.set i
          (some ⟨b 1, b 2, (b 3).setWidth 7, action⟩))) [1, 0, 255, 255]))
    ∧ (s.banks.pendingSwap = false → e.length = 21 →
      (b 0 = 0 → Answered 3 0 (v.setBanks (bankWith { s.standbyBank with head := none })) [1, 0, 255, 255])
      ∧ (b 0 ≠ 0 → ¬ numbered → Answered 3 0 v [0, 1, 0, 255])
      ∧ (b 0 ≠ 0 → numbered → Answered 3 0 (v.setBanks (bankWith { s.standbyBank with head := some {
          event := wide 1, heat := (b 3).toNat, lengths := (b 4).toNat, legs := (b 5).toNat
          minLength := max 5000 (min 600000 (65536 * wide 6 + wide 8))
          heatLimit := max 30 (min 3600 (wide 10)), recallWindow := min 30 (b 12).toNat
          exchangeMargin := min 200 (b 13).toNat, discrepancy := min 2000 (wide 14)
          buttonWindow := max 1 (min 30 (b 16).toNat), buttonArming := min 3600 (wide 17)
          resultHold := min 600 (wide 19) } })) [1, 0, 255, 255]))
    ∧ (∀ lane : Lane, s.banks.pendingSwap = false → e.length = 4 →
      Answered 3 (byteOf (lane.val + 1)) (v.setBanks (bankWith { s.standbyBank with
        lanes := s.standbyBank.lanes.set lane
          (if b 0 = 0 then ⟨false, false, 0⟩ else ⟨true, decide (b 1 ≠ 0), b 2 ++ b 3⟩) })) [1, 0, 255, 255])
    ∧ ∀ p : Fin 3, e.length = 5 → s.heat.state = .idle ∨ s.heat.state = .armed ∨ s.heat.state = .closed →
      let Stored (set : PatternSet) (force : Force) : Prop :=
        ∃ t : State, Answered 4 (byteOf p.val) t [1, 0, 255, 255]
          ∧ t = (v.setLamps { t.lamps with sincePhase := v.lamps.sincePhase }).setDeck { v.deck with queue := t.deck.queue }
          ∧ t.lamps.patterns = s.lamps.patterns.set p
              { s.lamps.patterns[p] with staged := some set, force := force }
          ∧ ((∀ lane : Lane, s.lamps.records[lane].assignment ≠ some p) → t.deck = v.deck)
          ∧ ∀ lane : Lane,
            (s.lamps.records[lane].assignment ≠ some p → t.lamps.records[lane] = s.lamps.records[lane])
            ∧ (s.lamps.records[lane].assignment = some p →
              LampEvaluated s t lane (Lit s.lamps.patterns[p].live s.lamps.patterns[p].phase force))
      let period := max 2 (b 1).toNat
      let onEdge := min period (b 2).toNat
      (b 0 = 0 → Stored ⟨100, 0, 0⟩ .none)
      ∧ (b 0 ≠ 0 → 2 < (b 4).toNat → Answered 4 (byteOf p.val) v [0, 1, byteOf p.val, 255])
      ∧ (b 0 ≠ 0 → ∀ force : Force, (b 4 = 0 ∧ force = .none) ∨ (b 4 = 1 ∧ force = .on) ∨ (b 4 = 2 ∧ force = .off) →
        Stored ⟨period, onEdge, max onEdge (min period (b 3).toNat)⟩ force)

/-- A settings write is accepted or refused on its own: the station when it is 1 to 126 and held by no node entry, and
then it is the source of the RESPONSE already; the channel mode when it is 0 or 1; the hold bit, which neither starts nor
ends HOLD, and a mailbox direction when 0 or 1 (R160). -/
def Obligations.SettingsWriteRule : Prop :=
  ∀ (now : Tick) (src tag value : Byte) (s : State) (room : List Telegram),
    ConsoleServed s → PlaceMade s room → s.orders.chain = none →
    let v := loadedTurn now s
    let Answered (index : Byte) (t : State) (body : List Byte) : Prop :=
      exec (.tloadFirst now src tag [1, 6, index, 1, value]) s =
        .next (answered t room (response t src tag .tload .ok 0 body))
    let held := ∃ (i : Fin 64) (n : Node), s.nodes[i] = some n ∧ n.entry.station = value
    (isStation value = true → ¬ held →
      Answered 0 (v.setSettings { s.settings with station := value }) [1, 0, 255, 255])
    ∧ (isStation value = false ∨ held → Answered 0 v [0, 1, 0, 255])
    ∧ (value = 0 → Answered 1 (v.setSettings { s.settings with mode := .park }) [1, 0, 255, 255])
    ∧ (value = 1 → Answered 1 (v.setSettings { s.settings with mode := .home }) [1, 0, 255, 255])
    ∧ (value.toNat ≤ 1 →
      Answered 2 (v.setSettings { s.settings with holdBit := value == 1 }) [1, 0, 255, 255]
      ∧ ∀ m : Fin 4, Answered (byteOf (3 + m.val))
          (v.setSettings { s.settings with toConsole := s.settings.toConsole.set m (value == 1) }) [1, 0, 255, 255])
    ∧ (1 < value.toNat → ∀ index : Byte, 1 ≤ index.toNat → index.toNat ≤ 6 → Answered index v [0, 1, index, 255])

/-! ### Orders to the heat -/

/-- ARM validation fails at the first check of table 4-4 that does not hold, and ARM is then REFUSED with that reason and
changes nothing; a bank that meets all seven checks passes (R66). -/
def Obligations.ArmValidation : Prop :=
  ∀ (now : Tick) (src tag : Byte) (s : State) (room : List Telegram),
    ConsoleServed s → PlaceMade s room → s.heat.state ≠ .marks → bankChainOpen s = false →
    s.banks.pendingSwap = false →
    let Refused (reason : Nat) : Prop :=
      exec (.arm now src tag []) s =
        .next (answered (ownerTurn now s) room (response s src tag .arm .refused reason []))
    let occupiedLane := ∃ lane : Lane, s.standbyBank.lanes[lane].occupied = true
    (s.standbyBank.head = none → Refused 1)
    ∧ ∀ h, s.standbyBank.head = some h →
      let c2 := 1 ≤ h.lengths ∧ h.lengths ≤ 60
      let c3 := h.legs = 1 ∨ h.legs = 2 ∨ h.legs = 4
      let c4 := ∃ k, h.lengths = k * h.legs
      let c5 := ¬ (1 < h.legs ∧ ∃ k, h.lengths = (2 * k + 1) * h.legs)
      let c7 := h.lengths * (1000 * h.minLength) ≤ 1000000 * h.heatLimit
      (¬ c2 → Refused 2) ∧ (c2 → ¬ c3 → Refused 3) ∧ (c2 → c3 → ¬ c4 → Refused 4)
        ∧ (c2 → c3 → c4 → ¬ c5 → Refused 5) ∧ (c2 → c3 → c4 → c5 → ¬ occupiedLane → Refused 6)
        ∧ (c2 → c3 → c4 → c5 → occupiedLane → ¬ c7 → Refused 7)
        ∧ (c2 → c3 → c4 → c5 → occupiedLane → c7 → validateBank s.standbyBank = none)

/-- ARM: BUSY in MARKS or with a chain to the heat bank open; OK with nothing done while a swap is pending; on a valid
standby bank it sets the pending swap in RUNNING and CLOSING, and in IDLE, ARMED and CLOSED it swaps at once: the other
bank active, no start tick, no heat timer, fresh lane records, no boost, the lamps cleared, the heat ARMED, and HEAT with
its NOTICE before the RESPONSE (R65, R67, R68). That R65 decides also for an ARM behind a START taken in MARKS, against a
remark of table 4-6, is the model's reading (notes/assumptions/28.md). -/
def Obligations.ArmSwapsOrPends : Prop :=
  ∀ (now : Tick) (src tag : Byte) (s : State), ConsoleServed s → PlacesFree 3 s →
    let v := ownerTurn now s
    let answer (status : Status) : Telegram := response s src tag .arm status 0 []
    let other : BankName := match s.banks.active with
      | .a => .b
      | .b => .a
    (s.heat.state = .marks ∨ bankChainOpen s = true →
      exec (.arm now src tag []) s = .next (answered v s.board.queue (answer .busy)))
    ∧ (s.heat.state ≠ .marks → bankChainOpen s = false →
      (s.banks.pendingSwap = true → exec (.arm now src tag []) s = .next (answered v s.board.queue (answer .ok)))
      ∧ (s.banks.pendingSwap = false → validateBank s.standbyBank = none →
        (s.heat.state = .running ∨ s.heat.state = .closing → exec (.arm now src tag []) s =
          .next (answered (v.setBanks { s.banks with pendingSwap := true }) s.board.queue (answer .ok)))
        ∧ (s.heat.state = .idle ∨ s.heat.state = .armed ∨ s.heat.state = .closed →
          let w := rearmed (timersStopped (v.setBanks { s.banks with active := other }))
          ∃ t, exec (.arm now src tag []) s = .next t
            ∧ ChangedWithLamps w t (heatAnnouncement w ++ [answer .ok]))))

/-- The heat enters CLOSING on END HEAT in RUNNING and on the expiry of the heat limit in RUNNING: heat limit and recall
window stopped, the button window started, HEAT offered with its NOTICE. END HEAT is OK with no change in CLOSING and
CLOSED and BUSY in the other states; the expiry of the recall window stops that timer and nothing else (R79, R81 to
R83). -/
def Obligations.HeatEntersClosing : Prop :=
  ∀ (now : Tick) (src tag : Byte) (s : State), PlacesFree 3 s →
    let u := advanceTo now s
    let v := ownerTurn now s
    let answer (status : Status) : Telegram := response s src tag .endh status 0 []
    (ConsoleServed s →
      (s.heat.state = .running → exec (.endh now src tag []) s =
        .next (changedWith (closing now v) (heatAnnouncement (closing now v) ++ [answer .ok])))
      ∧ (s.heat.state = .closing ∨ s.heat.state = .closed →
        exec (.endh now src tag []) s = .next (answered v s.board.queue (answer .ok)))
      ∧ (s.heat.state = .idle ∨ s.heat.state = .armed ∨ s.heat.state = .marks →
        exec (.endh now src tag []) s = .next (answered v s.board.queue (answer .busy))))
    ∧ (∀ timer, u.clock.heatLimit = some timer → timer.span ≤ timer.elapsed → s.heat.state = .running →
      exec (.heatLimitExpiry now) s = .next (changedWith (closing now u) (heatAnnouncement (closing now u))))
    ∧ ∀ timer, u.clock.recallWindow = some timer → timer.span ≤ timer.elapsed →
      exec (.recallWindowExpiry now) s = .next (u.setClock { u.clock with recallWindow := none })

/-- ABORT in any state but IDLE re-arms the active bank: all heat timers stopped, start tick and pending swap gone, fresh
lane records, no boost, the lamps cleared, HEAT carrying ARMED. CLEAR in ARMED and CLOSED empties the heat: IDLE, every
lane VACANT, the lamps cleared, HEAT carrying IDLE. The other states answer as table 5-3 has it and change nothing (R70,
R88, R89). -/
def Obligations.AbortAndClear : Prop :=
  ∀ (now : Tick) (src tag : Byte) (s : State), ConsoleServed s → PlacesFree 3 s →
    let v := ownerTurn now s
    let unpended := v.setBanks { s.banks with pendingSwap := false }
    let answer (code : OrderCode) (status : Status) : Telegram := response s src tag code status 0 []
    (s.heat.state = .idle →
      exec (.abort now src tag []) s = .next (answered v s.board.queue (answer .abort .busy))
      ∧ exec (.clear now src tag []) s = .next (answered v s.board.queue (answer .clear .ok)))
    ∧ (s.heat.state ≠ .idle →
      let w := rearmed (timersStopped unpended)
      ∃ t, exec (.abort now src tag []) s = .next t
        ∧ ChangedWithLamps w t (heatAnnouncement w ++ [answer .abort .ok]))
    ∧ (s.heat.state = .armed ∨ s.heat.state = .closed →
      let w := emptied (unpended.setClock { v.clock with resultHold := none })
      ∃ t, exec (.clear now src tag []) s = .next t
        ∧ ChangedWithLamps w t (heatAnnouncement w ++ [answer .clear .ok]))
    ∧ (s.heat.state = .marks ∨ s.heat.state = .running ∨ s.heat.state = .closing →
      exec (.clear now src tag []) s = .next (answered v s.board.queue (answer .clear .busy)))

/-- MARK by table 6-8. A DQ flag that changes re-places the lanes, the lamps follow, and the RESPONSE comes last; in RUNNING
a DQ set that leaves no occupied lane swimming makes the heat enter CLOSING. In RUNNING and CLOSING a PLACE is offered for
each lane whose place has changed, then HEAT with its NOTICE at an entry into CLOSING; in CLOSED the revision rises by one,
up to 255, and the RESULTs of all occupied lanes are offered in lane order (R80, R112, R117, R118, R125, R126). -/
def Obligations.MarkChangesDq : Prop :=
  ∀ (now : Tick) (src tag lane dq : Byte) (s : State) (room : List Telegram), ConsoleServed s → PlaceMade s room →
    let v := ownerTurn now s
    let answer (status : Status) (reason : Nat) : Telegram := response s src tag .mark status reason []
    let Answered (status : Status) (reason : Nat) : Prop :=
      exec (.mark now src tag [lane, dq]) s = .next (answered v room (answer status reason))
    (9 < lane.toNat → Answered .refused 1)
    ∧ ∀ l : Lane, lane = byteOf l.val →
      (1 < dq.toNat → Answered .refused 2)
      ∧ (dq.toNat ≤ 1 → s.heat.state = .idle ∨ s.heat.state = .armed ∨ s.heat.state = .marks → Answered .busy 0)
      ∧ (dq.toNat ≤ 1 → s.heat.state = .running ∨ s.heat.state = .closing ∨ s.heat.state = .closed →
        (s.lanes[l].state = .vacant → Answered .noData 0)
        ∧ (s.lanes[l].state ≠ .vacant → s.lanes[l].dq = (dq == 1) → Answered .ok 0)
        ∧ (s.lanes[l].state ≠ .vacant → s.lanes[l].dq ≠ (dq == 1) →
          ∃ t queue, exec (.mark now src tag [lane, dq]) s = .next t
            ∧ t.board = { v.board with queue := queue ++ [answer .ok 0], reserved := false }
            ∧ t.lanes[l] = { s.lanes[l] with dq := dq == 1, place := t.lanes[l].place }
            ∧ (∀ other : Lane, other ≠ l → t.lanes[other] = { s.lanes[other] with place := t.lanes[other].place })
            ∧ Placed s.heat.state t.lanes t.results.order ∧ LampsFollowPlaces t
            ∧ t.results.revision = (if s.heat.state = .closed then min 255 (s.results.revision + 1)
                else s.results.revision)
            ∧ (s.heat.state = .closed → PlacesFree 11 s → queue = s.board.queue ++
                (allLanes.filter fun l => s.lanes[l].state != .vacant).map (resultSent t))
            ∧ (let ends := s.heat.state = .running ∧ dq = 1 ∧ ∀ l : Lane,
                  t.lanes[l].state = .vacant ∨ t.lanes[l].state = .finished ∨ t.lanes[l].dq = true
               (ends → t.heat = { s.heat with state := .closing } ∧ t.clock = (closing now v).clock)
                ∧ (¬ ends → t.heat = s.heat ∧ t.clock = v.clock)
                ∧ (s.heat.state ≠ .closed → PlacesFree 13 s → ∃ changed,
                  queue = s.board.queue ++ (placesMoved s t).map (placeSent t) ++ changed
                  ∧ (ends → changed = heatAnnouncement (closing now v)) ∧ (¬ ends → changed = [])))
            ∧ t.nodes = s.nodes ∧ t.banks = s.banks ∧ t.filters = s.filters ∧ t.settings = s.settings
            ∧ t.loader = s.loader ∧ t.orders = { v.orders with notices := t.orders.notices }))

/-- SRC by table 7-3. A change of source takes that source's time as the official time, keeps DISCREPANT, re-places the
lanes, raises the revision, offers the RESULTs in lane order, and the RESPONSE comes last (R123, R124, R126). -/
def Obligations.SrcChangesSource : Prop :=
  ∀ (now : Tick) (src tag lane source : Byte) (s : State) (room : List Telegram), ConsoleServed s → PlaceMade s room →
    let v := ownerTurn now s
    let answer (status : Status) (reason : Nat) : Telegram := response s src tag .src status reason []
    let Answered (status : Status) (reason : Nat) : Prop :=
      exec (.src now src tag [lane, source]) s = .next (answered v room (answer status reason))
    let Names (named : Source) : Prop := (source = 1 ∧ named = .pad) ∨ (source = 2 ∧ named = .backup)
    (9 < lane.toNat → Answered .refused 1)
    ∧ ∀ l : Lane, lane = byteOf l.val →
      (source ≠ 1 → source ≠ 2 → Answered .refused 2)
      ∧ ∀ named, Names named →
        let time : Option Int := if source = 1 then s.lanes[l].padFinish else backupTime s.lanes[l].samples
        (s.heat.state ≠ .closed → Answered .busy 0)
        ∧ (s.heat.state = .closed → s.lanes[l].state = .vacant ∨ time = none → Answered .noData 0)
        ∧ (s.heat.state = .closed → s.lanes[l].state ≠ .vacant → time ≠ none → s.lanes[l].source = named →
            Answered .ok 0)
        ∧ (s.heat.state = .closed → s.lanes[l].state ≠ .vacant → time ≠ none → s.lanes[l].source ≠ named →
          ∃ t queue, exec (.src now src tag [lane, source]) s = .next t
            ∧ t.board = { v.board with queue := queue ++ [answer .ok 0], reserved := false }
            ∧ t.lanes[l] = { s.lanes[l] with official := time, source := named, place := t.lanes[l].place }
            ∧ (∀ other : Lane, other ≠ l → t.lanes[other] = { s.lanes[other] with place := t.lanes[other].place })
            ∧ Placed .closed t.lanes t.results.order ∧ LampsFollowPlaces t
            ∧ t.results.revision = min 255 (s.results.revision + 1)
            ∧ (PlacesFree 11 s → queue = s.board.queue ++
                (allLanes.filter fun l => s.lanes[l].state != .vacant).map (resultSent t))
            ∧ t.heat = s.heat ∧ t.clock = v.clock ∧ t.nodes = s.nodes ∧ t.banks = s.banks ∧ t.filters = s.filters
            ∧ t.settings = s.settings ∧ t.loader = s.loader
            ∧ t.orders = { v.orders with notices := t.orders.notices })

/-! ### Orders to the tallies -/

/-- TSET replaces the count of the counter it names and changes neither its overflow flag nor the frozen state, also while
the unit is frozen; a counter above 7 is REFUSED 1. A preload of 16,777,216 less N makes the Nth event counted after it
overflow the counter (R171).
TCTL by its action, seven commands in all: CONFIGURE replaces a counter's selections and enables and keeps its count
and overflow flag; FREEZE and UNFREEZE set and clear the frozen state; ZERO clears every count; CLEAR OVERFLOW clears one
flag or all; SET MODE sets freeze-on-overflow; each refusal, that of an unknown action among them, changes nothing
(R172). That CONFIGURE tests the counter before the select is the model's choice (notes/assumptions/23.md). -/
def Obligations.TallyOrders : Prop :=
  ((∀ (now : Tick) (src tag counter high mid low : Byte) (s : State) (room : List Telegram),
      ConsoleServed s → PlaceMade s room →
      let v := ownerTurn now s
      let Answered (t : State) (status : Status) (reason : Nat) : Prop :=
        exec (.tset now src tag [counter, high, mid, low]) s =
          .next (answered t room (response s src tag .tset status reason []))
      (7 < counter.toNat → Answered v .refused 1)
      ∧ ∀ i : Fin 8, counter = byteOf i.val → Answered (v.setTally { s.tally with
          counters := s.tally.counters.set i { s.tally.counters[i] with count := high ++ mid ++ low } }) .ok 0)
      ∧ ∀ (n : Nat) (c : TallyCounter), 1 ≤ n → n ≤ 16777215 → c.overflow = false →
        c.count = BitVec.ofNat 24 (16777216 - n) →
        (Nat.repeat raiseCount (n - 1) c).overflow = false ∧ (Nat.repeat raiseCount n c).overflow = true
          ∧ (Nat.repeat raiseCount n c).count = 0)
    ∧ (∀ (now : Tick) (src tag action counter select m1 m0 value mask flags : Byte) (s : State) (room : List Telegram),
      ConsoleServed s → PlaceMade s room →
      let v := ownerTurn now s
      let fields : List Byte := [counter, select, m1, m0, value, mask, flags]
      let Answered (c : Instr) (t : State) (status : Status) (reason : Nat) : Prop :=
        exec c s = .next (answered t room (response s src tag .tctl status reason []))
      let tally (t : TallyUnit) : State := v.setTally t
      let counters (cs : Vector TallyCounter 8) : State := v.setTally { s.tally with counters := cs }
      let configure := Instr.tctlConfigure now src tag (1 :: fields)
      let clear := Instr.tctlClearOverflow now src tag (5 :: fields)
      (7 < counter.toNat → Answered configure v .refused 1)
      ∧ (counter.toNat ≤ 7 → 17 < select.toNat → Answered configure v .refused 2)
      ∧ (∀ i : Fin 8, counter = byteOf i.val → select.toNat ≤ 17 → Answered configure
          (counters (s.tally.counters.set i { s.tally.counters[i] with
            select := select.toNat, laneMask := (m1 ++ m0).setWidth 11, stationValue := value, stationMask := mask
            enabled := flags.getLsbD 0, overflowNotice := flags.getLsbD 1 })) .ok 0)
      ∧ Answered (.tctlFreeze now src tag (2 :: fields)) (tally { s.tally with frozen := true }) .ok 0
      ∧ Answered (.tctlUnfreeze now src tag (3 :: fields)) (tally { s.tally with frozen := false }) .ok 0
      ∧ Answered (.tctlZero now src tag (4 :: fields))
          (counters (Vector.ofFn fun i : Fin 8 => { s.tally.counters[i] with count := 0 })) .ok 0
      ∧ (counter = 255 → Answered clear
          (counters (Vector.ofFn fun i : Fin 8 => { s.tally.counters[i] with overflow := false })) .ok 0)
      ∧ (∀ i : Fin 8, counter = byteOf i.val → Answered clear
          (counters (s.tally.counters.set i { s.tally.counters[i] with overflow := false })) .ok 0)
      ∧ (7 < counter.toNat → counter ≠ 255 → Answered clear v .refused 1)
      ∧ Answered (.tctlSetMode now src tag (6 :: fields))
          (tally { s.tally with freezeOnOverflow := flags.getLsbD 2 }) .ok 0
      ∧ (action = 0 ∨ 6 < action.toNat →
          Answered (.tctlUnknownAction now src tag (action :: fields)) v .refused 3))

/-! ### TIMING RESET -/

/-- TRST of the owner makes the TIMING RESET, also on a full board queue, and leaves HEAT carrying IDLE and its RESPONSE as
the whole board queue: the heat is empty and its timers stopped, boosts clear, chain, query, claim and channel timers gone,
the deck command queue holds a LAMP off for each lane whose lamp was last sent lit and nothing else, and the notices are cleared but CONFIG_INVALID and
a NODE_LOST that holds; every table, bank, tally, mailbox and setting is kept (R21, R91, R139, R148, R167). That the mark
of a QUERY on the line is cleared is the model's choice (notes/assumptions/20.md); that each LAMP off goes to the recorded
station also where the lane has offered to a new one unsent is its reading (notes/assumptions/27.md). -/
def Obligations.TimingResetClearsTheHeat : Prop :=
  ∀ (now : Tick) (src tag : Byte) (s : State), ConsoleServed s →
    let u := advanceTo now s
    let w := emptied (unboosted (timersStopped (u.setBanks { s.banks with pendingSwap := false })))
    let lost := ∃ (i : Fin 64) (n : Node), s.nodes[i] = some n ∧ n.run.presence = .absent
    let lit (lane : Lane) : Bool := s.lamps.records[lane].lineState
    ∃ (t : State), exec (.trst now src tag []) s = .next t
      ∧ t = ((((w.setBoard { u.board with
            queue := [heatSent w, response s src tag .trst .ok 0 []], reserved := false }).setOrders
          { u.orders with
            chain := none, slot := .free, claim := none, handover := none, home := none
            notices := t.orders.notices }).setDeck
          { u.deck with queue := t.deck.queue, queryOnLine := false }).setLamps
          { u.lamps with records := Vector.ofFn fun lane : Lane =>
            { s.lamps.records[lane] with assignment := none, produced := false } })
      ∧ (∀ k : Fin 12, (k = 9 → t.orders.notices[k] = s.orders.notices[k])
          ∧ (k ≠ 9 → t.orders.notices[k].enabled = s.orders.notices[k].enabled
            ∧ t.orders.notices[k].direction = s.orders.notices[k].direction
            ∧ (t.orders.notices[k].status = true ↔ k = 0 ∧ lost)))
      ∧ (∀ (lane : Lane) (station : Byte), lit lane = true → s.lamps.records[lane].recorded = some station →
          ∃ e ∈ t.deck.queue, e.telegram = ⟨station, s.settings.station, kindLamp, [0]⟩)
      ∧ ∀ e ∈ t.deck.queue, ∃ (l lane : Lane) (station : Byte), e.origin = .lamp l ∧ lit lane = true
          ∧ s.lamps.records[lane].recorded = some station
          ∧ e.telegram = ⟨station, s.settings.station, kindLamp, [0]⟩

/-! ### Expiries and lamps -/

/-- A clock step that is due increments the count, and in RUNNING and CLOSING a CLOCK carrying the heat state and the count
joins the board queue; no step is due before the next multiple of 100,000 µs (R45, R87). The expiry of the result hold
applies the pending swap without validating: as an ARM in CLOSED swaps, with the flag cleared and no RESPONSE (R67,
R69). That an expiry commanded before it is due moves time alone is the model's choice (notes/assumptions/2.md). -/
def Obligations.ClockStepsAndHoldExpire : Prop :=
  (∀ (now : Tick) (s : State) (timer : StepTimer), (advanceTo now s).clock.clockStep = some timer →
      let u := advanceTo now s
      let stepped := u.setClock { u.clock with clockStep := some { timer with count := timer.count + 1 } }
      (timer.elapsed < 100000 * (timer.count + 1) → exec (.clockStepExpiry now) s = .next u)
      ∧ (100000 * (timer.count + 1) ≤ timer.elapsed →
        (s.heat.state = .running ∨ s.heat.state = .closing → PlacesFree 1 s →
          exec (.clockStepExpiry now) s = .next (stepped.setBoard { u.board with
            queue := s.board.queue ++ [⟨127, s.settings.station, kindClock,
              [if s.heat.state = .running then 3 else 4] ++ be32 (BitVec.ofNat 32 (timer.count + 1))⟩] }))
        ∧ (s.heat.state ≠ .running → s.heat.state ≠ .closing → exec (.clockStepExpiry now) s = .next stepped)))
    ∧ (∀ (now : Tick) (s : State) (timer : Timer), (advanceTo now s).clock.resultHold = some timer →
      timer.span ≤ timer.elapsed → s.banks.pendingSwap = true → PlacesFree 2 s →
      let u := advanceTo now s
      let other : BankName := match s.banks.active with
        | .a => .b
        | .b => .a
      let w := rearmed (timersStopped (u.setBanks { s.banks with active := other, pendingSwap := false }))
      ∃ t, exec (.resultHoldExpiry now) s = .next t ∧ ChangedWithLamps w t (heatAnnouncement w))

/-- The channel's timers: the claim's expiry ends it and stops the handover timer; the handover's expiry passes ownership
to a live claimant while no chain is open; the home timer's expiry returns it to CONSOLE; the gap timer's expiry aborts the
chain and raises CHAIN_ABORT (R153, R154, R156, R159). -/
def Obligations.ChannelTimersExpire : Prop :=
  ∀ (now : Tick) (s : State) (timer : Timer), timer.span ≤ timer.elapsed →
    let u := advanceTo now s
    let o := u.orders
    (o.claim = some timer →
      exec (.claimExpiry now) s = .next (u.setOrders { o with claim := none, handover := none }))
    ∧ (o.handover = some timer → o.claim ≠ none → o.chain = none →
      exec (.handoverExpiry now) s = .next (u.setOrders { o with
        owner := if s.orders.owner = .console then .panel else .console
        claim := none, handover := none
        home := if s.orders.owner = .console ∧ s.settings.mode = .home then some (freshTimer now 2000000) else none }))
    ∧ (o.home = some timer → exec (.homeExpiry now) s = .next (u.setOrders { o with
        owner := .console, claim := none, handover := none, home := none }))
    ∧ ∀ chain, o.chain = some chain → chain.gap = timer → PlacesFree 1 s →
      let w := u.setOrders { o with
        chain := none
        handover := if s.orders.claim.isSome then some (freshTimer now 50000) else o.handover
        home := if s.orders.owner = .panel ∧ s.settings.mode = .home then some (freshTimer now 2000000) else o.home }
      let n := s.notice .chainAbort
      exec (.chainGapExpiry now) s = .next ((setStatus .chainAbort true w).setBoard { u.board with
        queue := s.board.queue ++ if n.status = false ∧ n.enabled = true ∧ n.direction = .board
          then [⟨127, s.settings.station, kindNotice, [12]⟩] else [] })

/-- A lamp phase step, due every 10,000 µs: each phase increments, or returns to 0 at its period end, where a staged set
becomes live. A lane assigned none, or to a pattern with neither an edge nor its period end, is not touched; another then
stands as its pattern does when its lamp station is the one recorded for it, or it stood dark, and no LAMP of it waits for
another station, and a change is queued for that station (R143, R144, R146). -/
def Obligations.LampPhaseStepFollowsPatterns : Prop :=
  ∀ (now : Tick) (s : State), 10000 ≤ (advanceTo now s).lamps.sincePhase →
    let u := advanceTo now s
    let lit (set : PatternSet) (phase : Nat) : Bool := Lit set phase .none
    ∃ t, exec (.lampPhaseStep now) s = .next t
      ∧ t = (u.setLamps t.lamps).setDeck { u.deck with queue := t.deck.queue }
      ∧ t.lamps.sincePhase = u.lamps.sincePhase - 10000
      ∧ (∀ p : Fin 3, let old := s.lamps.patterns[p]
          (old.live.period ≤ old.phase + 1 →
            t.lamps.patterns[p] = { old with live := old.staged.getD old.live, staged := none, phase := 0 })
          ∧ (old.phase + 1 < old.live.period → t.lamps.patterns[p] = { old with phase := old.phase + 1 }))
      ∧ ((∀ lane : Lane, s.lamps.records[lane].assignment = none) → t.deck = u.deck)
      ∧ (∀ lane : Lane, s.lamps.records[lane].assignment = none → t.lamps.records[lane] = s.lamps.records[lane])
      ∧ ∀ (lane : Lane) (p : Fin 3), s.lamps.records[lane].assignment = some p →
        let old := s.lamps.patterns[p]
        let new := t.lamps.patterns[p]
        let due := old.live.period ≤ old.phase + 1 ∨ lit new.live new.phase ≠ lit old.live old.phase
        (¬ due → t.lamps.records[lane] = s.lamps.records[lane])
        ∧ (due → LampEvaluated s t lane (Lit new.live new.phase old.force))

/-! ### Laws that every step keeps -/

/-- The state after reset, whose strap and memory are the model's choice (notes/assumptions/3.md), keeps every law
below. -/
def Obligations.ResetKeepsTheLaws : Prop :=
  BoardLaw State.reset ∧ RaceLaw State.reset ∧ NodeLaw State.reset ∧ ChannelLaw State.reset ∧ DeckLaw State.reset
    ∧ SplitLaw State.reset ∧ MemoryLaw State.reset

/-- Every step keeps the board queue within its 32 places, with at most one SPLIT a lane and no reservation that outlasts
its order (R134, R137), and the deck command queue within its class bounds, a LAMP of each lane and station, a QUERY, a
RESPONSE and four pass-through telegrams, which come to no more than 16 telegrams, with a QUERY under way only for the slot
that waits for it (R19, R146, R161, R162). That a RESPONSE above its bound is not admitted, where the designation of the
panel has moved during an exchange, is the model's reading (notes/assumptions/22.md). -/
def Obligations.QueueLawsKept : Prop :=
  KeptByEveryStep BoardLaw
    ∧ KeptByEveryStep DeckLaw
    ∧ ∀ s : State, DeckLaw s → s.deck.queue.length ≤ 16

/-- Every step keeps the start tick, the lane states, the heat timers and the pending swap in agreement with the heat
state (R68 to R72, tables 5-1 and 6-2), and each lane's splits numbered from 1 to its length count without gaps, with at
most one backup sample a button position (R97, R98, R111). -/
def Obligations.RaceLawsKept : Prop :=
  KeptByEveryStep RaceLaw
    ∧ KeptByEveryStep SplitLaw

/-- Every step keeps the node table in its stored form, each station held once and none the module's own (R22 to R24,
R160), and the configuration memory in its canonical form. -/
def Obligations.TablesKeepTheirForm : Prop :=
  KeptByEveryStep NodeLaw ∧ KeptByEveryStep MemoryLaw

/-- Every step keeps the handover and home timers running exactly when the claim, the owner, the mode and the load chain
say so (R152 to R156, R159). -/
def Obligations.ChannelLawKept : Prop :=
  KeptByEveryStep ChannelLaw
end

