-- ==== Sys2Proof/Laws/State.lean ====
section
/-! SUPPORT. What replacing one block of the state leaves of every block: one lemma a block and a replacement. -/

namespace Sys2Proof.Machine

section
variable (s : State) (x : RaceClock)

@[simp] theorem State.setClock_clock : (s.setClock x).clock = x := rfl
@[simp] theorem State.setClock_nodes : (s.setClock x).nodes = s.nodes := rfl
@[simp] theorem State.setClock_filters : (s.setClock x).filters = s.filters := rfl
@[simp] theorem State.setClock_deck : (s.setClock x).deck = s.deck := rfl
@[simp] theorem State.setClock_banks : (s.setClock x).banks = s.banks := rfl
@[simp] theorem State.setClock_heat : (s.setClock x).heat = s.heat := rfl
@[simp] theorem State.setClock_lanes : (s.setClock x).lanes = s.lanes := rfl
@[simp] theorem State.setClock_results : (s.setClock x).results = s.results := rfl
@[simp] theorem State.setClock_board : (s.setClock x).board = s.board := rfl
@[simp] theorem State.setClock_lamps : (s.setClock x).lamps = s.lamps := rfl
@[simp] theorem State.setClock_orders : (s.setClock x).orders = s.orders := rfl
@[simp] theorem State.setClock_settings : (s.setClock x).settings = s.settings := rfl
@[simp] theorem State.setClock_tally : (s.setClock x).tally = s.tally := rfl
@[simp] theorem State.setClock_loader : (s.setClock x).loader = s.loader := rfl
@[simp] theorem State.setClock_pending : (s.setClock x).pending = s.pending := rfl

end

section
variable (s : State) (x : NodeTable)

@[simp] theorem State.setNodes_clock : (s.setNodes x).clock = s.clock := rfl
@[simp] theorem State.setNodes_nodes : (s.setNodes x).nodes = x := rfl
@[simp] theorem State.setNodes_filters : (s.setNodes x).filters = s.filters := rfl
@[simp] theorem State.setNodes_deck : (s.setNodes x).deck = s.deck := rfl
@[simp] theorem State.setNodes_banks : (s.setNodes x).banks = s.banks := rfl
@[simp] theorem State.setNodes_heat : (s.setNodes x).heat = s.heat := rfl
@[simp] theorem State.setNodes_lanes : (s.setNodes x).lanes = s.lanes := rfl
@[simp] theorem State.setNodes_results : (s.setNodes x).results = s.results := rfl
@[simp] theorem State.setNodes_board : (s.setNodes x).board = s.board := rfl
@[simp] theorem State.setNodes_lamps : (s.setNodes x).lamps = s.lamps := rfl
@[simp] theorem State.setNodes_orders : (s.setNodes x).orders = s.orders := rfl
@[simp] theorem State.setNodes_settings : (s.setNodes x).settings = s.settings := rfl
@[simp] theorem State.setNodes_tally : (s.setNodes x).tally = s.tally := rfl
@[simp] theorem State.setNodes_loader : (s.setNodes x).loader = s.loader := rfl
@[simp] theorem State.setNodes_pending : (s.setNodes x).pending = s.pending := rfl

end

section
variable (s : State) (x : FilterTable)

@[simp] theorem State.setFilters_clock : (s.setFilters x).clock = s.clock := rfl
@[simp] theorem State.setFilters_nodes : (s.setFilters x).nodes = s.nodes := rfl
@[simp] theorem State.setFilters_filters : (s.setFilters x).filters = x := rfl
@[simp] theorem State.setFilters_deck : (s.setFilters x).deck = s.deck := rfl
@[simp] theorem State.setFilters_banks : (s.setFilters x).banks = s.banks := rfl
@[simp] theorem State.setFilters_heat : (s.setFilters x).heat = s.heat := rfl
@[simp] theorem State.setFilters_lanes : (s.setFilters x).lanes = s.lanes := rfl
@[simp] theorem State.setFilters_results : (s.setFilters x).results = s.results := rfl
@[simp] theorem State.setFilters_board : (s.setFilters x).board = s.board := rfl
@[simp] theorem State.setFilters_lamps : (s.setFilters x).lamps = s.lamps := rfl
@[simp] theorem State.setFilters_orders : (s.setFilters x).orders = s.orders := rfl
@[simp] theorem State.setFilters_settings : (s.setFilters x).settings = s.settings := rfl
@[simp] theorem State.setFilters_tally : (s.setFilters x).tally = s.tally := rfl
@[simp] theorem State.setFilters_loader : (s.setFilters x).loader = s.loader := rfl
@[simp] theorem State.setFilters_pending : (s.setFilters x).pending = s.pending := rfl

end

section
variable (s : State) (x : DeckPoller)

@[simp] theorem State.setDeck_clock : (s.setDeck x).clock = s.clock := rfl
@[simp] theorem State.setDeck_nodes : (s.setDeck x).nodes = s.nodes := rfl
@[simp] theorem State.setDeck_filters : (s.setDeck x).filters = s.filters := rfl
@[simp] theorem State.setDeck_deck : (s.setDeck x).deck = x := rfl
@[simp] theorem State.setDeck_banks : (s.setDeck x).banks = s.banks := rfl
@[simp] theorem State.setDeck_heat : (s.setDeck x).heat = s.heat := rfl
@[simp] theorem State.setDeck_lanes : (s.setDeck x).lanes = s.lanes := rfl
@[simp] theorem State.setDeck_results : (s.setDeck x).results = s.results := rfl
@[simp] theorem State.setDeck_board : (s.setDeck x).board = s.board := rfl
@[simp] theorem State.setDeck_lamps : (s.setDeck x).lamps = s.lamps := rfl
@[simp] theorem State.setDeck_orders : (s.setDeck x).orders = s.orders := rfl
@[simp] theorem State.setDeck_settings : (s.setDeck x).settings = s.settings := rfl
@[simp] theorem State.setDeck_tally : (s.setDeck x).tally = s.tally := rfl
@[simp] theorem State.setDeck_loader : (s.setDeck x).loader = s.loader := rfl
@[simp] theorem State.setDeck_pending : (s.setDeck x).pending = s.pending := rfl

end

section
variable (s : State) (x : BankStore)

@[simp] theorem State.setBanks_clock : (s.setBanks x).clock = s.clock := rfl
@[simp] theorem State.setBanks_nodes : (s.setBanks x).nodes = s.nodes := rfl
@[simp] theorem State.setBanks_filters : (s.setBanks x).filters = s.filters := rfl
@[simp] theorem State.setBanks_deck : (s.setBanks x).deck = s.deck := rfl
@[simp] theorem State.setBanks_banks : (s.setBanks x).banks = x := rfl
@[simp] theorem State.setBanks_heat : (s.setBanks x).heat = s.heat := rfl
@[simp] theorem State.setBanks_lanes : (s.setBanks x).lanes = s.lanes := rfl
@[simp] theorem State.setBanks_results : (s.setBanks x).results = s.results := rfl
@[simp] theorem State.setBanks_board : (s.setBanks x).board = s.board := rfl
@[simp] theorem State.setBanks_lamps : (s.setBanks x).lamps = s.lamps := rfl
@[simp] theorem State.setBanks_orders : (s.setBanks x).orders = s.orders := rfl
@[simp] theorem State.setBanks_settings : (s.setBanks x).settings = s.settings := rfl
@[simp] theorem State.setBanks_tally : (s.setBanks x).tally = s.tally := rfl
@[simp] theorem State.setBanks_loader : (s.setBanks x).loader = s.loader := rfl
@[simp] theorem State.setBanks_pending : (s.setBanks x).pending = s.pending := rfl

end

section
variable (s : State) (x : HeatController)

@[simp] theorem State.setHeat_clock : (s.setHeat x).clock = s.clock := rfl
@[simp] theorem State.setHeat_nodes : (s.setHeat x).nodes = s.nodes := rfl
@[simp] theorem State.setHeat_filters : (s.setHeat x).filters = s.filters := rfl
@[simp] theorem State.setHeat_deck : (s.setHeat x).deck = s.deck := rfl
@[simp] theorem State.setHeat_banks : (s.setHeat x).banks = s.banks := rfl
@[simp] theorem State.setHeat_heat : (s.setHeat x).heat = x := rfl
@[simp] theorem State.setHeat_lanes : (s.setHeat x).lanes = s.lanes := rfl
@[simp] theorem State.setHeat_results : (s.setHeat x).results = s.results := rfl
@[simp] theorem State.setHeat_board : (s.setHeat x).board = s.board := rfl
@[simp] theorem State.setHeat_lamps : (s.setHeat x).lamps = s.lamps := rfl
@[simp] theorem State.setHeat_orders : (s.setHeat x).orders = s.orders := rfl
@[simp] theorem State.setHeat_settings : (s.setHeat x).settings = s.settings := rfl
@[simp] theorem State.setHeat_tally : (s.setHeat x).tally = s.tally := rfl
@[simp] theorem State.setHeat_loader : (s.setHeat x).loader = s.loader := rfl
@[simp] theorem State.setHeat_pending : (s.setHeat x).pending = s.pending := rfl

end

section
variable (s : State) (x : Vector LaneRecord 10)

@[simp] theorem State.setLanes_clock : (s.setLanes x).clock = s.clock := rfl
@[simp] theorem State.setLanes_nodes : (s.setLanes x).nodes = s.nodes := rfl
@[simp] theorem State.setLanes_filters : (s.setLanes x).filters = s.filters := rfl
@[simp] theorem State.setLanes_deck : (s.setLanes x).deck = s.deck := rfl
@[simp] theorem State.setLanes_banks : (s.setLanes x).banks = s.banks := rfl
@[simp] theorem State.setLanes_heat : (s.setLanes x).heat = s.heat := rfl
@[simp] theorem State.setLanes_lanes : (s.setLanes x).lanes = x := rfl
@[simp] theorem State.setLanes_results : (s.setLanes x).results = s.results := rfl
@[simp] theorem State.setLanes_board : (s.setLanes x).board = s.board := rfl
@[simp] theorem State.setLanes_lamps : (s.setLanes x).lamps = s.lamps := rfl
@[simp] theorem State.setLanes_orders : (s.setLanes x).orders = s.orders := rfl
@[simp] theorem State.setLanes_settings : (s.setLanes x).settings = s.settings := rfl
@[simp] theorem State.setLanes_tally : (s.setLanes x).tally = s.tally := rfl
@[simp] theorem State.setLanes_loader : (s.setLanes x).loader = s.loader := rfl
@[simp] theorem State.setLanes_pending : (s.setLanes x).pending = s.pending := rfl

end

section
variable (s : State) (x : ResultUnit)

@[simp] theorem State.setResults_clock : (s.setResults x).clock = s.clock := rfl
@[simp] theorem State.setResults_nodes : (s.setResults x).nodes = s.nodes := rfl
@[simp] theorem State.setResults_filters : (s.setResults x).filters = s.filters := rfl
@[simp] theorem State.setResults_deck : (s.setResults x).deck = s.deck := rfl
@[simp] theorem State.setResults_banks : (s.setResults x).banks = s.banks := rfl
@[simp] theorem State.setResults_heat : (s.setResults x).heat = s.heat := rfl
@[simp] theorem State.setResults_lanes : (s.setResults x).lanes = s.lanes := rfl
@[simp] theorem State.setResults_results : (s.setResults x).results = x := rfl
@[simp] theorem State.setResults_board : (s.setResults x).board = s.board := rfl
@[simp] theorem State.setResults_lamps : (s.setResults x).lamps = s.lamps := rfl
@[simp] theorem State.setResults_orders : (s.setResults x).orders = s.orders := rfl
@[simp] theorem State.setResults_settings : (s.setResults x).settings = s.settings := rfl
@[simp] theorem State.setResults_tally : (s.setResults x).tally = s.tally := rfl
@[simp] theorem State.setResults_loader : (s.setResults x).loader = s.loader := rfl
@[simp] theorem State.setResults_pending : (s.setResults x).pending = s.pending := rfl

end

section
variable (s : State) (x : BoardTransmitter)

@[simp] theorem State.setBoard_clock : (s.setBoard x).clock = s.clock := rfl
@[simp] theorem State.setBoard_nodes : (s.setBoard x).nodes = s.nodes := rfl
@[simp] theorem State.setBoard_filters : (s.setBoard x).filters = s.filters := rfl
@[simp] theorem State.setBoard_deck : (s.setBoard x).deck = s.deck := rfl
@[simp] theorem State.setBoard_banks : (s.setBoard x).banks = s.banks := rfl
@[simp] theorem State.setBoard_heat : (s.setBoard x).heat = s.heat := rfl
@[simp] theorem State.setBoard_lanes : (s.setBoard x).lanes = s.lanes := rfl
@[simp] theorem State.setBoard_results : (s.setBoard x).results = s.results := rfl
@[simp] theorem State.setBoard_board : (s.setBoard x).board = x := rfl
@[simp] theorem State.setBoard_lamps : (s.setBoard x).lamps = s.lamps := rfl
@[simp] theorem State.setBoard_orders : (s.setBoard x).orders = s.orders := rfl
@[simp] theorem State.setBoard_settings : (s.setBoard x).settings = s.settings := rfl
@[simp] theorem State.setBoard_tally : (s.setBoard x).tally = s.tally := rfl
@[simp] theorem State.setBoard_loader : (s.setBoard x).loader = s.loader := rfl
@[simp] theorem State.setBoard_pending : (s.setBoard x).pending = s.pending := rfl

end

section
variable (s : State) (x : LampGenerator)

@[simp] theorem State.setLamps_clock : (s.setLamps x).clock = s.clock := rfl
@[simp] theorem State.setLamps_nodes : (s.setLamps x).nodes = s.nodes := rfl
@[simp] theorem State.setLamps_filters : (s.setLamps x).filters = s.filters := rfl
@[simp] theorem State.setLamps_deck : (s.setLamps x).deck = s.deck := rfl
@[simp] theorem State.setLamps_banks : (s.setLamps x).banks = s.banks := rfl
@[simp] theorem State.setLamps_heat : (s.setLamps x).heat = s.heat := rfl
@[simp] theorem State.setLamps_lanes : (s.setLamps x).lanes = s.lanes := rfl
@[simp] theorem State.setLamps_results : (s.setLamps x).results = s.results := rfl
@[simp] theorem State.setLamps_board : (s.setLamps x).board = s.board := rfl
@[simp] theorem State.setLamps_lamps : (s.setLamps x).lamps = x := rfl
@[simp] theorem State.setLamps_orders : (s.setLamps x).orders = s.orders := rfl
@[simp] theorem State.setLamps_settings : (s.setLamps x).settings = s.settings := rfl
@[simp] theorem State.setLamps_tally : (s.setLamps x).tally = s.tally := rfl
@[simp] theorem State.setLamps_loader : (s.setLamps x).loader = s.loader := rfl
@[simp] theorem State.setLamps_pending : (s.setLamps x).pending = s.pending := rfl

end

section
variable (s : State) (x : OrderHandler)

@[simp] theorem State.setOrders_clock : (s.setOrders x).clock = s.clock := rfl
@[simp] theorem State.setOrders_nodes : (s.setOrders x).nodes = s.nodes := rfl
@[simp] theorem State.setOrders_filters : (s.setOrders x).filters = s.filters := rfl
@[simp] theorem State.setOrders_deck : (s.setOrders x).deck = s.deck := rfl
@[simp] theorem State.setOrders_banks : (s.setOrders x).banks = s.banks := rfl
@[simp] theorem State.setOrders_heat : (s.setOrders x).heat = s.heat := rfl
@[simp] theorem State.setOrders_lanes : (s.setOrders x).lanes = s.lanes := rfl
@[simp] theorem State.setOrders_results : (s.setOrders x).results = s.results := rfl
@[simp] theorem State.setOrders_board : (s.setOrders x).board = s.board := rfl
@[simp] theorem State.setOrders_lamps : (s.setOrders x).lamps = s.lamps := rfl
@[simp] theorem State.setOrders_orders : (s.setOrders x).orders = x := rfl
@[simp] theorem State.setOrders_settings : (s.setOrders x).settings = s.settings := rfl
@[simp] theorem State.setOrders_tally : (s.setOrders x).tally = s.tally := rfl
@[simp] theorem State.setOrders_loader : (s.setOrders x).loader = s.loader := rfl
@[simp] theorem State.setOrders_pending : (s.setOrders x).pending = s.pending := rfl

end

section
variable (s : State) (x : Settings)

@[simp] theorem State.setSettings_clock : (s.setSettings x).clock = s.clock := rfl
@[simp] theorem State.setSettings_nodes : (s.setSettings x).nodes = s.nodes := rfl
@[simp] theorem State.setSettings_filters : (s.setSettings x).filters = s.filters := rfl
@[simp] theorem State.setSettings_deck : (s.setSettings x).deck = s.deck := rfl
@[simp] theorem State.setSettings_banks : (s.setSettings x).banks = s.banks := rfl
@[simp] theorem State.setSettings_heat : (s.setSettings x).heat = s.heat := rfl
@[simp] theorem State.setSettings_lanes : (s.setSettings x).lanes = s.lanes := rfl
@[simp] theorem State.setSettings_results : (s.setSettings x).results = s.results := rfl
@[simp] theorem State.setSettings_board : (s.setSettings x).board = s.board := rfl
@[simp] theorem State.setSettings_lamps : (s.setSettings x).lamps = s.lamps := rfl
@[simp] theorem State.setSettings_orders : (s.setSettings x).orders = s.orders := rfl
@[simp] theorem State.setSettings_settings : (s.setSettings x).settings = x := rfl
@[simp] theorem State.setSettings_tally : (s.setSettings x).tally = s.tally := rfl
@[simp] theorem State.setSettings_loader : (s.setSettings x).loader = s.loader := rfl
@[simp] theorem State.setSettings_pending : (s.setSettings x).pending = s.pending := rfl

end

section
variable (s : State) (x : TallyUnit)

@[simp] theorem State.setTally_clock : (s.setTally x).clock = s.clock := rfl
@[simp] theorem State.setTally_nodes : (s.setTally x).nodes = s.nodes := rfl
@[simp] theorem State.setTally_filters : (s.setTally x).filters = s.filters := rfl
@[simp] theorem State.setTally_deck : (s.setTally x).deck = s.deck := rfl
@[simp] theorem State.setTally_banks : (s.setTally x).banks = s.banks := rfl
@[simp] theorem State.setTally_heat : (s.setTally x).heat = s.heat := rfl
@[simp] theorem State.setTally_lanes : (s.setTally x).lanes = s.lanes := rfl
@[simp] theorem State.setTally_results : (s.setTally x).results = s.results := rfl
@[simp] theorem State.setTally_board : (s.setTally x).board = s.board := rfl
@[simp] theorem State.setTally_lamps : (s.setTally x).lamps = s.lamps := rfl
@[simp] theorem State.setTally_orders : (s.setTally x).orders = s.orders := rfl
@[simp] theorem State.setTally_settings : (s.setTally x).settings = s.settings := rfl
@[simp] theorem State.setTally_tally : (s.setTally x).tally = x := rfl
@[simp] theorem State.setTally_loader : (s.setTally x).loader = s.loader := rfl
@[simp] theorem State.setTally_pending : (s.setTally x).pending = s.pending := rfl

end

section
variable (s : State) (x : ConfigLoader)

@[simp] theorem State.setLoader_clock : (s.setLoader x).clock = s.clock := rfl
@[simp] theorem State.setLoader_nodes : (s.setLoader x).nodes = s.nodes := rfl
@[simp] theorem State.setLoader_filters : (s.setLoader x).filters = s.filters := rfl
@[simp] theorem State.setLoader_deck : (s.setLoader x).deck = s.deck := rfl
@[simp] theorem State.setLoader_banks : (s.setLoader x).banks = s.banks := rfl
@[simp] theorem State.setLoader_heat : (s.setLoader x).heat = s.heat := rfl
@[simp] theorem State.setLoader_lanes : (s.setLoader x).lanes = s.lanes := rfl
@[simp] theorem State.setLoader_results : (s.setLoader x).results = s.results := rfl
@[simp] theorem State.setLoader_board : (s.setLoader x).board = s.board := rfl
@[simp] theorem State.setLoader_lamps : (s.setLoader x).lamps = s.lamps := rfl
@[simp] theorem State.setLoader_orders : (s.setLoader x).orders = s.orders := rfl
@[simp] theorem State.setLoader_settings : (s.setLoader x).settings = s.settings := rfl
@[simp] theorem State.setLoader_tally : (s.setLoader x).tally = s.tally := rfl
@[simp] theorem State.setLoader_loader : (s.setLoader x).loader = x := rfl
@[simp] theorem State.setLoader_pending : (s.setLoader x).pending = s.pending := rfl

end

section
variable (s : State) (x : List Instr)

@[simp] theorem State.setPending_clock : (s.setPending x).clock = s.clock := rfl
@[simp] theorem State.setPending_nodes : (s.setPending x).nodes = s.nodes := rfl
@[simp] theorem State.setPending_filters : (s.setPending x).filters = s.filters := rfl
@[simp] theorem State.setPending_deck : (s.setPending x).deck = s.deck := rfl
@[simp] theorem State.setPending_banks : (s.setPending x).banks = s.banks := rfl
@[simp] theorem State.setPending_heat : (s.setPending x).heat = s.heat := rfl
@[simp] theorem State.setPending_lanes : (s.setPending x).lanes = s.lanes := rfl
@[simp] theorem State.setPending_results : (s.setPending x).results = s.results := rfl
@[simp] theorem State.setPending_board : (s.setPending x).board = s.board := rfl
@[simp] theorem State.setPending_lamps : (s.setPending x).lamps = s.lamps := rfl
@[simp] theorem State.setPending_orders : (s.setPending x).orders = s.orders := rfl
@[simp] theorem State.setPending_settings : (s.setPending x).settings = s.settings := rfl
@[simp] theorem State.setPending_tally : (s.setPending x).tally = s.tally := rfl
@[simp] theorem State.setPending_loader : (s.setPending x).loader = s.loader := rfl
@[simp] theorem State.setPending_pending : (s.setPending x).pending = x := rfl

end

end Sys2Proof.Machine
end

