-- ==== Sys2Proof/Laws/Tables.lean ====
section
/-! SUPPORT. What the tables of a fixed size hold after a change. -/

namespace Sys2Proof.Machine

@[simp] theorem mapAll_getElem {α β : Type} {n : Nat} (table : Vector α n) (f : α → β) (i : Nat) (h : i < n) :
    (mapAll table f)[i] = f table[i] := by
  simp [mapAll]

theorem modifyAt_getElem {α : Type} {n : Nat} (table : Vector α n) (i : Fin n) (f : α → α) (j : Nat) (h : j < n) :
    (modifyAt table i f)[j] = if i.val = j then f table[j] else table[j] := by
  unfold modifyAt
  rw [Vector.getElem_set]
  split
  · subst_vars; rfl
  · rfl

@[simp] theorem modifyAt_getElem_self {α : Type} {n : Nat} (table : Vector α n) (i : Fin n) (f : α → α) :
    (modifyAt table i f)[i.val] = f table[i.val] := by
  simp [modifyAt_getElem]

theorem modifyAt_getElem_other {α : Type} {n : Nat} (table : Vector α n) (i : Fin n) (f : α → α) (j : Nat) (h : j < n)
    (other : i.val ≠ j) : (modifyAt table i f)[j] = table[j] := by
  simp [modifyAt_getElem, other]

end Sys2Proof.Machine
end

