-- ==== Sys2Proof/Laws/Announce.lean ====
section
/-! SUPPORT. Counting a tally event, offering a telegram to the board queue and raising a notice change announcements
alone (R134, R165, R169). -/

namespace Sys2Proof.Machine

theorem OnlyAnnounces.refl (s : State) : OnlyAnnounces s s := by
  constructor <;> intros <;> rfl

theorem OnlyAnnounces.trans {s t u : State} (st : OnlyAnnounces s t) (tu : OnlyAnnounces t u) : OnlyAnnounces s u where
  clock := tu.clock.trans st.clock
  nodes := tu.nodes.trans st.nodes
  filters := tu.filters.trans st.filters
  deck := tu.deck.trans st.deck
  banks := tu.banks.trans st.banks
  heat := tu.heat.trans st.heat
  lanes := tu.lanes.trans st.lanes
  results := tu.results.trans st.results
  lamps := tu.lamps.trans st.lamps
  settings := tu.settings.trans st.settings
  loader := tu.loader.trans st.loader
  pending := tu.pending.trans st.pending
  line := tu.line.trans st.line
  busy := tu.busy.trans st.busy
  orders := by rw [tu.orders, st.orders]
  notices k := by rw [tu.notices k, st.notices k]
  counters i := by rw [tu.counters i, st.counters i]
  mode := tu.mode.trans st.mode

/-- Replacing the board queue and its reservation is an announcement. -/
theorem onlyAnnounces_queue (s : State) (queue : List Telegram) (reserved : Bool) :
    OnlyAnnounces s (s.setBoard { s.board with queue := queue, reserved := reserved }) := by
  constructor <;> intros <;> rfl

/-- Setting or clearing a notice status is an announcement. -/
theorem onlyAnnounces_setStatus (k : NoticeKind) (status : Bool) (s : State) :
    OnlyAnnounces s (setStatus k status s) := by
  constructor <;> intros <;> try rfl
  rename_i i
  simp only [setStatus, State.setOrders_orders, Fin.getElem_fin, modifyAt_getElem]
  split <;> simp_all

theorem tallyAfter_counter (t : TallyUnit) (e : TallyEvent) (lane : Option Lane) (station : Option Byte) (i : Fin 8) :
    (tallyAfter t e lane station).counters[i.val] =
      if t.frozen = false ∧ counterMatches t.counters[i.val] e lane station then raiseCount t.counters[i.val]
      else t.counters[i.val] := by
  unfold tallyAfter
  cases t.frozen <;> simp

@[simp] theorem tallyAfter_mode (t : TallyUnit) (e : TallyEvent) (lane : Option Lane) (station : Option Byte) :
    (tallyAfter t e lane station).freezeOnOverflow = t.freezeOnOverflow := by
  unfold tallyAfter
  split <;> rfl

/-- The Tally Unit's own work on an event is an announcement. -/
theorem onlyAnnounces_tallyAfter (e : TallyEvent) (lane : Option Lane) (station : Option Byte) (s : State) :
    OnlyAnnounces s (s.setTally (tallyAfter s.tally e lane station)) := by
  constructor <;> intros <;> try rfl
  · rename_i i
    simp only [State.setTally_tally, Fin.getElem_fin, tallyAfter_counter]
    split <;> rfl
  · exact tallyAfter_mode _ _ _ _

theorem onlyAnnounces_countWith {raise : NoticeKind → State → State} (announces : ∀ k s, OnlyAnnounces s (raise k s))
    (e : TallyEvent) (lane : Option Lane) (station : Option Byte) (s : State) :
    OnlyAnnounces s (countWith raise e lane station s) := by
  unfold countWith
  split
  · exact (onlyAnnounces_tallyAfter e lane station s).trans (announces _ _)
  · exact onlyAnnounces_tallyAfter e lane station s

theorem onlyAnnounces_offerWith {raise : NoticeKind → State → State} (announces : ∀ k s, OnlyAnnounces s (raise k s))
    (t : Telegram) (s : State) : OnlyAnnounces s (offerWith raise t s) := by
  unfold offerWith
  split
  · exact onlyAnnounces_queue s _ _
  · exact (onlyAnnounces_countWith announces _ _ _ s).trans (announces _ _)

theorem onlyAnnounces_raiseWith {offer : Telegram → State → State} (announces : ∀ t s, OnlyAnnounces s (offer t s))
    (k : NoticeKind) (s : State) : OnlyAnnounces s (raiseWith offer k s) := by
  unfold raiseWith
  split
  · exact OnlyAnnounces.refl s
  · dsimp only
    split
    · exact (onlyAnnounces_setStatus k true s).trans (announces _ _)
    · exact onlyAnnounces_setStatus k true s

theorem onlyAnnounces_offerAt (n : Nat) : ∀ t s, OnlyAnnounces s (offerAt n t s) := by
  induction n with
  | zero => exact fun t s => onlyAnnounces_offerWith (fun k s => onlyAnnounces_setStatus k true s) t s
  | succ n ih => exact fun t s => onlyAnnounces_offerWith (onlyAnnounces_raiseWith ih) t s

/-- Offering a telegram to the board queue changes announcements alone. -/
theorem offer_onlyAnnounces (t : Telegram) (s : State) : OnlyAnnounces s (offer t s) := onlyAnnounces_offerAt 2 t s

/-- Raising a notice changes announcements alone. -/
theorem raise_onlyAnnounces (k : NoticeKind) (s : State) : OnlyAnnounces s (raise k s) :=
  onlyAnnounces_raiseWith offer_onlyAnnounces k s

/-- Counting a tally event changes announcements alone. -/
theorem count_onlyAnnounces (e : TallyEvent) (lane : Option Lane) (station : Option Byte) (s : State) :
    OnlyAnnounces s (count e lane station s) :=
  onlyAnnounces_countWith raise_onlyAnnounces e lane station s

/-- Announcing a heat state changes announcements alone. -/
theorem announceHeat_onlyAnnounces (s : State) : OnlyAnnounces s (announceHeat s) :=
  (offer_onlyAnnounces _ s).trans (raise_onlyAnnounces _ _)

/-- Offering a telegram for each of some lanes changes announcements alone. -/
theorem offerEach_onlyAnnounces (telegram : State → Lane → Telegram) (lanes : List Lane) (s : State) :
    OnlyAnnounces s (offerEach telegram lanes s) := by
  unfold offerEach
  induction lanes generalizing s with
  | nil => exact OnlyAnnounces.refl s
  | cons lane rest ih => exact (offer_onlyAnnounces _ s).trans (ih _)

/-- Offering the RESULT telegrams changes announcements alone. -/
theorem offerResults_onlyAnnounces (s : State) : OnlyAnnounces s (offerResults s) := offerEach_onlyAnnounces _ _ s

end Sys2Proof.Machine
end

