-- ==== Sys2Proof/Laws/Memory.lean ====
section
/-! SUPPORT. The configuration memory: every operation keeps its canonical form, and a byte read is the byte last written
there. -/

namespace Sys2Proof.Machine

theorem mem_writeCell {a : Nat} {b : Byte} {cells : List Host.Cell} {c : Host.Cell}
    (h : c ∈ writeCell a b cells) : c = (a, b) ∧ b ≠ unwrittenByte ∨ c ∈ cells := by
  induction cells with
  | nil =>
    unfold writeCell at h
    split at h <;> simp_all
  | cons d rest ih =>
    unfold writeCell at h
    split at h
    · cases List.mem_cons.mp h with
      | inl e => exact .inr (by simp [e])
      | inr r => exact (ih r).imp id fun m => List.mem_cons_of_mem _ m
    · dsimp only at h
      split at h <;> split at h
      · exact .inr (List.mem_cons_of_mem _ h)
      · exact .inr h
      all_goals
        rcases List.mem_cons.mp h with e | r
        · exact .inl ⟨e, ‹_›⟩
        · first | exact .inr r | exact .inr (List.mem_cons_of_mem _ r)

theorem writeCell_pairwise {a : Nat} {b : Byte} {cells : List Host.Cell}
    (h : cells.Pairwise fun c d => c.1 < d.1) : (writeCell a b cells).Pairwise fun c d => c.1 < d.1 := by
  induction cells with
  | nil => unfold writeCell; split <;> simp
  | cons d rest ih =>
    obtain ⟨first, behind⟩ := List.pairwise_cons.mp h
    unfold writeCell
    split
    · rename_i below
      refine List.pairwise_cons.mpr ⟨fun c m => ?_, ih behind⟩
      rcases mem_writeCell m with ⟨rfl, -⟩ | m
      · exact below
      · exact first c m
    · rename_i above
      dsimp only
      split <;> split
      · exact behind
      · exact h
      · rename_i same _
        exact List.pairwise_cons.mpr ⟨fun c m => by have := first c m; simp only; omega, behind⟩
      · refine List.pairwise_cons.mpr ⟨fun c m => ?_, h⟩
        rcases List.mem_cons.mp m with rfl | m
        · simp only; omega
        · have := first c m; simp only; omega

/-- A byte write keeps the canonical form. -/
theorem Memory.write_wf {m : Memory} (h : m.wf) (a : Nat) (b : Byte) : (m.write a b).wf := by
  refine ⟨writeCell_pairwise h.1, fun c mem => ?_⟩
  rcases mem_writeCell mem with ⟨rfl, ne⟩ | old
  · exact ne
  · exact h.2 c old

/-- A sequence of byte writes keeps the canonical form. -/
theorem Memory.writeAll_wf {m : Memory} (h : m.wf) (writes : List Host.Cell) : (m.writeAll writes).wf := by
  unfold Memory.writeAll
  induction writes generalizing m with
  | nil => exact h
  | cons w rest ih => exact ih (Memory.write_wf h w.1 w.2)

/-- The writes of a SAVE keep the canonical form. -/
theorem savedUpTo_wf {m : Memory} (h : m.wf) (n : Nat) (image : List Byte) : (savedUpTo n image m).wf :=
  Memory.writeAll_wf h _

/-- However a write ends, the memory keeps its canonical form. -/
theorem saveOutcome_wf {m : Memory} (h : m.wf) (how : SaveEnd) (snapshot : List Byte) :
    (saveOutcome how snapshot m).1.wf := by
  unfold saveOutcome
  cases how with
  | complete => exact savedUpTo_wf h _ _
  | misread image => exact Memory.writeAll_wf (savedUpTo_wf h _ _) _
  | stopped written => exact savedUpTo_wf h _ _

/-- POWER_ON leaves the memory in its canonical form. -/
theorem memoryAtPowerOn_wf {l : ConfigLoader} (h : l.memory.wf) (written : Nat) : (memoryAtPowerOn written l).wf := by
  unfold memoryAtPowerOn
  split
  · exact h
  · exact savedUpTo_wf h _ _

/-- The memory at reset is in its canonical form. -/
theorem reset_memory_wf : State.reset.loader.memory.wf := by decide

theorem find_writeCell_same (a : Nat) (b : Byte) (cells : List Host.Cell)
    (h : cells.Pairwise fun c d => c.1 < d.1) :
    (writeCell a b cells).find? (fun c => c.1 == a) = if b = unwrittenByte then none else some (a, b) := by
  induction cells with
  | nil => unfold writeCell; split <;> simp_all
  | cons d rest ih =>
    obtain ⟨first, behind⟩ := List.pairwise_cons.mp h
    unfold writeCell
    split
    · rename_i below
      have : (d.1 == a) = false := by simp; omega
      simp only [List.find?_cons, this]
      exact ih behind
    · rename_i above
      dsimp only
      split
      · split
        · refine List.find?_eq_none.mpr fun c m => ?_
          have := first c m
          simp; omega
        · refine List.find?_eq_none.mpr fun c m => ?_
          rcases List.mem_cons.mp m with rfl | m
          · simp; omega
          · have := first c m; simp; omega
      · simp

theorem find_writeCell_other (a a' : Nat) (b : Byte) (cells : List Host.Cell) (other : a ≠ a') :
    (writeCell a b cells).find? (fun c => c.1 == a') = cells.find? fun c => c.1 == a' := by
  have away : (a == a') = false := by simp [other]
  induction cells with
  | nil => unfold writeCell; split <;> simp [away]
  | cons d rest ih =>
    unfold writeCell
    split
    · simp only [List.find?_cons, ih]
    · dsimp only
      split <;> split
      · rename_i same; have : (d.1 == a') = false := by rw [same]; exact away
        simp [this]
      · rfl
      · rename_i same; have : (d.1 == a') = false := by rw [same]; exact away
        simp [this, away]
      · simp [away]

/-- A byte read back where it was written. -/
theorem Memory.read_write_same {m : Memory} (h : m.wf) (a : Nat) (b : Byte) : (m.write a b).read a = b := by
  unfold Memory.read Memory.write
  rw [find_writeCell_same a b m.cells h.1]
  split
  · rename_i x e
    split at e
    · cases e
    · cases e; rfl
  · rename_i e
    split at e
    · rename_i isUnwritten; exact isUnwritten.symm
    · cases e

/-- A write leaves every other address as it was. -/
theorem Memory.read_write_other (m : Memory) (a a' : Nat) (b : Byte) (other : a ≠ a') :
    (m.write a b).read a' = m.read a' := by
  unfold Memory.read Memory.write
  simp only [find_writeCell_other a a' b m.cells other]

end Sys2Proof.Machine
end

