-- ==== Sys2Proof/Laws/Orders.lean ====
section
/-! SUPPORT. What taking a console order comes to, case by case (R137, R138, R150), and the state an owner's order is
carried out on. -/

namespace Sys2Proof.Machine

/-- The owner's timers are started the same whatever the board queue holds. -/
theorem noteOwnerOrder_setBoard (s : State) (b : BoardTransmitter) :
    noteOwnerOrder (s.setBoard b) = (noteOwnerOrder s).setBoard b := by
  obtain ⟨_, _, _, _, _, _, _, _, _, _, orders, settings, _, _, _⟩ := s
  obtain ⟨owner, claim, _, _, chain, _, _, _⟩ := orders
  obtain ⟨_, mode, _, _⟩ := settings
  cases claim <;> cases chain <;> cases owner <;> cases mode <;> rfl

/-- An owner's order leaves every block but the Order Handler as it was. -/
theorem noteOwnerOrder_eq (s : State) : noteOwnerOrder s = s.setOrders (noteOwnerOrder s).orders := by
  obtain ⟨_, _, _, _, _, _, _, _, _, _, orders, settings, _, _, _⟩ := s
  obtain ⟨owner, claim, _, _, chain, _, _, _⟩ := orders
  obtain ⟨_, mode, _, _⟩ := settings
  cases claim <;> cases chain <;> cases owner <;> cases mode <;> rfl

/-- A console order that finds a place and passes tests 2 to 6 is carried out, and its answer fills the reservation. -/
theorem consoleOrder_passed {src tag : Byte} {code : OrderCode} {body : List Byte} {effect : State → State × Answer}
    {s : State} {room : List Telegram} (place : PlaceMade s room)
    (gated : gate .console code body.length s = .passed) :
    consoleOrder src code tag body effect s = respondConsole src (orderNumber code) tag
      (effect (noteOrder code (s.setBoard { s.board with queue := room, reserved := true }))) := by
  have gated' : gate .console code body.length (s.setBoard { s.board with queue := room, reserved := true }) = .passed :=
    gated
  unfold PlaceMade at place
  simp [consoleOrder, reservePlace, place, decideOrder, gated']

/-- A console order that finds a place and is answered at tests 2 to 5 changes nothing but the board queue. -/
theorem consoleOrder_answered {src tag : Byte} {code : OrderCode} {body : List Byte}
    {effect : State → State × Answer} {s : State} {room : List Telegram} {a : Answer} (place : PlaceMade s room)
    (gated : gate .console code body.length s = .answered a) :
    consoleOrder src code tag body effect s = answered s room (response s src tag code a.status a.reason a.body) := by
  have gated' : gate .console code body.length (s.setBoard { s.board with queue := room, reserved := true }) =
    .answered a := gated
  unfold PlaceMade at place
  simp only [consoleOrder, reservePlace, place, decideOrder, gated', Option.map_some]
  rfl

/-- A console order that finds a place and is another side's to send registers or renews the console's claim. -/
theorem consoleOrder_retry {src tag : Byte} {code : OrderCode} {body : List Byte} {effect : State → State × Answer}
    {s : State} {room : List Telegram} (place : PlaceMade s room)
    (gated : gate .console code body.length s = .retry) :
    consoleOrder src code tag body effect s = respondConsole src (orderNumber code) tag
      (registerClaim (s.setBoard { s.board with queue := room, reserved := true }), plain .retry) := by
  have gated' : gate .console code body.length (s.setBoard { s.board with queue := room, reserved := true }) = .retry :=
    gated
  unfold PlaceMade at place
  simp [consoleOrder, reservePlace, place, decideOrder, gated']

/-- A console order that finds no place is not taken. -/
theorem consoleOrder_unplaced {src tag : Byte} {code : OrderCode} {body : List Byte}
    {effect : State → State × Answer} {s : State} (full : makeRoom s.board.reserved s.board.queue = none) :
    consoleOrder src code tag body effect s = refuseUnplaced src s := by
  simp [consoleOrder, reservePlace, full]

/-- An order that needs no channel, of a length that suits it, passes while the module serves orders. -/
theorem gate_open {code : OrderCode} {n : Nat} {s : State} (serving : Serving s) (suits : lengthSuits code n = true)
    (free : needsChannel code = false) : gate .console code n s = .passed := by
  simp [gate, notReady, serving.1, serving.2, suits, free]

/-- A channel-needing order of the owner, of a length that suits it, passes while the module serves orders. -/
theorem gate_owner {code : OrderCode} {n : Nat} {s : State} (served : ConsoleServed s)
    (suits : lengthSuits code n = true) : gate .console code n s = .passed := by
  simp [gate, notReady, served.1.1, served.1.2, suits, served.2]

/-- Time moving on changes nothing that decides whether an order is served. -/
theorem serving_advanceTo {s : State} (now : Tick) (serving : Serving s) : Serving (advanceTo now s) := serving

/-- Time moving on does not change the channel's owner. -/
theorem consoleServed_advanceTo {s : State} (now : Tick) (served : ConsoleServed s) :
    ConsoleServed (advanceTo now s) := served

/-- Time moving on does not change the board queue. -/
theorem placeMade_advanceTo {s : State} {room : List Telegram} (now : Tick) (place : PlaceMade s room) :
    PlaceMade (advanceTo now s) room := place

/-- An order that needs no channel, served and placed: its effect on the state with the reservation made, and its
RESPONSE. -/
theorem consoleOrder_open {now : Tick} {src tag : Byte} {code : OrderCode} {body : List Byte}
    {effect : State → State × Answer} {s : State} {room : List Telegram} (serving : Serving s)
    (place : PlaceMade s room) (suits : lengthSuits code body.length = true) (free : needsChannel code = false) :
    consoleOrder src code tag body effect (advanceTo now s) = respondConsole src (orderNumber code) tag
      (effect ((advanceTo now s).setBoard { (advanceTo now s).board with queue := room, reserved := true })) := by
  rw [consoleOrder_passed (placeMade_advanceTo now place)
    (gate_open (serving_advanceTo now serving) suits free)]
  simp [noteOrder, free]

/-- A channel-needing order of the console as owner, served and placed. -/
theorem consoleOrder_owner {now : Tick} {src tag : Byte} {code : OrderCode} {body : List Byte}
    {effect : State → State × Answer} {s : State} {room : List Telegram} (served : ConsoleServed s)
    (place : PlaceMade s room) (suits : lengthSuits code body.length = true) (needs : needsChannel code = true) :
    consoleOrder src code tag body effect (advanceTo now s) = respondConsole src (orderNumber code) tag
      (effect ((ownerTurn now s).setBoard { (advanceTo now s).board with queue := room, reserved := true })) := by
  rw [consoleOrder_passed (placeMade_advanceTo now place)
    (gate_owner (consoleServed_advanceTo now served) suits)]
  simp [noteOrder, needs, ownerTurn, noteOwnerOrder_setBoard]

end Sys2Proof.Machine
end

