-- ==== Sys2Proof/Laws/Telegrams.lean ====
section
/-! SUPPORT. The telegrams that the module forms are, byte for byte, those of the tables of chapter 1. -/

namespace Sys2Proof.Machine

theorem heatTelegram_eq (s : State) : heatTelegram s = heatSent s := by
  unfold heatTelegram heatSent State.head
  cases s.activeBank.head <;> cases s.heat.state <;> rfl

theorem noticeTelegram_eq (s : State) (k : NoticeKind) :
    noticeTelegram s k = boardSent s 55 [byteOf ((noticeIndex k).val + 1)] := rfl

theorem splitTelegram_eq (s : State) (lane : Lane) (length : Nat) (time : Int) (late : Bool) :
    splitTelegram s lane length (some time) late = splitSent s lane length time late := rfl

theorem reactionSent_eq (reaction : Option Int) : int16 (reportedReaction reaction) = reactionSent reaction := by
  cases reaction <;> rfl

theorem timeIn_thousandths (time : Option Int) : shownTime thousandths time = timeIn 1000 time := by
  cases time <;> rfl

theorem timeIn_hundredths (time : Option Int) : shownTime hundredths time = timeIn 10000 time := by
  cases time <;> rfl

theorem finishTelegram_eq (s : State) (lane : Lane) : finishTelegram s lane = finishSent s lane := by
  unfold finishTelegram finishSent
  simp only [reactionSent_eq, timeIn_thousandths]
  rfl

theorem placeTelegram_eq (s : State) (lane : Lane) : placeTelegram s lane = placeSent s lane := by
  unfold placeTelegram placeSent
  simp only [timeIn_thousandths]
  rfl

theorem resultTelegram_eq (s : State) (lane : Lane) : resultTelegram s lane = resultSent s lane := by
  have verdict (r : LaneRecord) (k : Nat) : verdictByte r k = (match r.exchanges.find? fun x => x.number == k with
      | none => 0
      | some x => match x.verdict with
        | .good => 1
        | .early => 2
        | .notJudged => 3) := by
    unfold verdictByte
    cases r.exchanges.find? fun x => x.number == k with
    | none => rfl
    | some x => cases h : x.verdict <;> simp only [verdictCode, h] <;> rfl
  have source (x : Source) : byteOf (sourceCode x) = (match x with
      | .none => 0
      | .pad => 1
      | .backup => 2) := by
    cases x <;> rfl
  unfold resultTelegram resultSent
  simp only [reactionSent_eq, timeIn_hundredths, verdict, source]
  rfl

/-- The NOTICE a notice kind sends when it rises. -/
theorem noticeSent_loud {s : State} {k : NoticeKind} (clear : (s.notice k).status = false)
    (enabled : (s.notice k).enabled = true) (board : (s.notice k).direction = .board) (number : Byte) :
    noticeSent s k number = [boardSent s 55 [number]] := if_pos ⟨clear, enabled, board⟩

/-- A notice kind that is set already, disabled or directed to the panel sends no NOTICE. -/
theorem noticeSent_quiet {s : State} {k : NoticeKind}
    (quiet : ¬ ((s.notice k).status = false ∧ (s.notice k).enabled = true ∧ (s.notice k).direction = .board))
    (number : Byte) : noticeSent s k number = [] := if_neg quiet

end Sys2Proof.Machine
end

