-- ==== Sys2Proof/Laws/Queues.lean ====
section
/-! SUPPORT. What the board queue's operations, the notices and the look-ups in the node table come to, once for all. -/

namespace Sys2Proof.Machine

/-! ### The board queue -/

/-- With a place free the queue stands as it is (R134, step 1). -/
theorem makeRoom_free {reserved : Bool} {queue : List Telegram} (free : placesTaken reserved queue < 32) :
    makeRoom reserved queue = some queue := by
  unfold makeRoom
  exact if_pos free

/-- A telegram that leaves the queue is the oldest of its kind. -/
theorem removeOldest_some {kind : Byte} {queue less : List Telegram} (h : removeOldest kind queue = some less) :
    ∃ before oldest behind, queue = before ++ oldest :: behind ∧ oldest.kind = kind
      ∧ (∀ q ∈ before, q.kind ≠ kind) ∧ less = before ++ behind := by
  unfold removeOldest at h
  split at h
  · rename_i some_kind
    obtain ⟨q, mem, is⟩ := List.any_eq_true.mp some_kind
    obtain ⟨oldest, before, behind, others, kindOf, whole, rest⟩ := List.exists_of_eraseP (p := fun q => q.kind == kind) mem is
    refine ⟨before, oldest, behind, whole, by simpa using kindOf, fun q mem => by simpa using others q mem, ?_⟩
    simpa [rest] using h.symm
  · exact nomatch h

/-- Nothing leaves a queue that holds none of the kind. -/
theorem removeOldest_none {kind : Byte} {queue : List Telegram} :
    removeOldest kind queue = none ↔ ∀ q ∈ queue, q.kind ≠ kind := by
  unfold removeOldest
  split
  · rename_i h
    simp only [reduceCtorEq, false_iff]
    simpa using h
  · rename_i h
    simpa using h

/-- The queue makes no room exactly when it is full and holds neither a CLOCK nor a SPLIT (R134, step 4). -/
theorem makeRoom_none {reserved : Bool} {queue : List Telegram} :
    makeRoom reserved queue = none ↔
      32 ≤ placesTaken reserved queue ∧ ∀ q ∈ queue, q.kind ≠ kindClock ∧ q.kind ≠ kindSplit := by
  by_cases free : placesTaken reserved queue < 32
  · rw [makeRoom_free free]
    simp only [reduceCtorEq, false_iff]
    omega
  · have full : ¬ placesTaken reserved queue < Config.boardPlaces := free
    unfold makeRoom
    rw [if_neg full]
    cases clock : removeOldest kindClock queue with
    | some less =>
      simp only [reduceCtorEq, false_iff]
      rintro ⟨_, neither⟩
      have := removeOldest_none.mpr fun q mem => (neither q mem).1
      exact nomatch this.symm.trans clock
    | none =>
      simp only [removeOldest_none]
      have noClock := removeOldest_none.mp clock
      exact ⟨fun noSplit => ⟨Nat.le_of_not_lt free, fun q mem => ⟨noClock q mem, noSplit q mem⟩⟩,
        fun h q mem => (h.2 q mem).2⟩

/-- A telegram that is no SPLIT joins the tail of a queue with a place free. -/
theorem offer_free {t : Telegram} {s : State} (free : placesTaken s.board.reserved s.board.queue < 32)
    (kind : t.kind ≠ kindSplit) : offer t s = s.setBoard { s.board with queue := s.board.queue ++ [t] } := by
  have other : (t.kind == kindSplit) = false := by simpa using kind
  simp [offer, offerAt, offerWith, insertBoard, coalesce, other, makeRoom_free free]

/-! ### Notices -/

/-- A notice whose status is set is not raised again (R165). -/
theorem raise_set {k : NoticeKind} {s : State} (set : (s.notice k).status = true) : raise k s = s := by
  simp [raise, raiseWith, set]

/-- A notice that is disabled or directed to the panel rises without a telegram (R165). -/
theorem raise_quiet {k : NoticeKind} {s : State}
    (quiet : ¬ ((s.notice k).enabled = true ∧ (s.notice k).direction = .board)) :
    raise k s = if (s.notice k).status then s else setStatus k true s := by
  unfold raise raiseWith
  split
  · rfl
  · rw [if_neg]
    simpa using quiet

/-- Giving a notice the status it has changes nothing. -/
theorem setStatus_same {k : NoticeKind} {s : State} : setStatus k (s.notice k).status s = s := by
  have entry : modifyAt s.orders.notices (noticeIndex k) (fun n => { n with status := (s.notice k).status }) =
      s.orders.notices := by
    apply Vector.ext
    intro i h
    rw [modifyAt_getElem]
    split
    · rename_i here
      subst here
      rfl
    · rfl
  unfold setStatus
  rw [entry]
  rfl

/-- With a place free a notice that is raised is set, and its NOTICE, where it sends one, joins the tail (R165). -/
theorem raise_free {k : NoticeKind} {s : State} (free : placesTaken s.board.reserved s.board.queue < 32) :
    raise k s = (setStatus k true s).setBoard
      { s.board with queue := s.board.queue ++ noticeSent s k (byteOf ((noticeIndex k).val + 1)) } := by
  by_cases loud : (s.notice k).status = false ∧ (s.notice k).enabled = true ∧ (s.notice k).direction = .board
  · obtain ⟨clear, enabled, board⟩ := loud
    have joined : offer (noticeTelegram s k) (setStatus k true s) = _ :=
      offer_free (s := setStatus k true s) free (fun h => nomatch (h : kindNotice = kindSplit))
    unfold raise raiseWith
    rw [if_neg (by simp [clear]), if_pos (by simp [enabled, board]), noticeSent_loud clear enabled board]
    exact joined
  · rw [noticeSent_quiet loud]
    have still : (setStatus k true s).setBoard { s.board with queue := s.board.queue ++ [] } = setStatus k true s := by
      simp [setStatus, State.setBoard, State.setOrders]
    rw [still]
    cases status : (s.notice k).status with
    | true => rw [raise_set status, ← status, setStatus_same]
    | false => rw [raise_quiet (fun h => loud ⟨status, h⟩), status]; rfl

/-- On a queue with two places free a change of heat state is announced by HEAT and, when HEAT_CHANGE rises toward BOARD,
its NOTICE (R73). -/
theorem announceHeat_free {s : State} (free : PlacesFree 2 s) : announceHeat s = changedWith s (heatAnnouncement s) := by
  obtain ⟨noPlace, room⟩ := free
  have room' : s.board.queue.length + 2 ≤ 32 := room
  have one : placesTaken s.board.reserved s.board.queue < 32 := by simp [placesTaken, noPlace]; omega
  have two : placesTaken s.board.reserved (s.board.queue ++ [heatTelegram s]) < 32 := by
    simp [placesTaken, noPlace]; omega
  have offered : offer (heatTelegram s) s = s.setBoard { s.board with queue := s.board.queue ++ [heatTelegram s] } :=
    offer_free one (fun h => nomatch (h : kindHeat = kindSplit))
  unfold announceHeat
  rw [offered, raise_free (s := s.setBoard { s.board with queue := s.board.queue ++ [heatTelegram s] }) two]
  rw [heatTelegram_eq]
  simp only [changedWith, heatAnnouncement, noPlace]
  simp [setStatus, State.setBoard, State.setOrders, noticeSent, State.notice, boardSent, noticeIndex, byteOf]
  rfl

/-! ### Looking up a station -/

/-- The entry found holds the station. -/
theorem findNode_some {nodes : NodeTable} {station : Byte} {i : Fin 64} (h : findNode nodes station = some i) :
    ∃ n, nodes[i] = some n ∧ n.entry.station = station := by
  have holds := List.find?_some h
  unfold holdsStation at holds
  split at holds
  · rename_i n here
    exact ⟨n, here, by simpa using holds⟩
  · exact nomatch holds

/-- No entry is found exactly when none holds the station. -/
theorem findNode_none {nodes : NodeTable} {station : Byte} :
    findNode nodes station = none ↔ ∀ (i : Fin 64) (n : Node), nodes[i] = some n → n.entry.station ≠ station := by
  unfold findNode nodeIndices
  rw [List.find?_eq_none]
  constructor
  · intro h i n here same
    have := h i (List.mem_finRange i)
    simp only [holdsStation, here, same, beq_self_eq_true, not_true_eq_false] at this
  · intro h i _
    unfold holdsStation
    split
    · rename_i n here
      simpa using h i n here
    · simp

/-- In a lawful table the entry that holds a station is the one found (R22, R29). -/
theorem findNode_here {s : State} {i : Fin 64} {n : Node} (law : NodeLaw s) (here : s.nodes[i] = some n) :
    findNode s.nodes n.entry.station = some i := by
  cases found : findNode s.nodes n.entry.station with
  | none => exact absurd rfl (findNode_none.mp found i n here)
  | some j =>
    obtain ⟨m, there, same⟩ := findNode_some found
    rw [law.2.1 j i m n there here same]

/-- In a lawful table the runtime fields of a station change in its own entry alone. -/
theorem changeRuntime_here {s : State} {i : Fin 64} {n : Node} (law : NodeLaw s) (here : s.nodes[i] = some n)
    (f : NodeRuntime → NodeRuntime) :
    changeRuntime s.nodes n.entry.station f = s.nodes.set i (some { n with run := f n.run }) := by
  have here' : s.nodes[i.val] = some n := here
  simp [changeRuntime, findNode_here law here, modifyAt, here']

end Sys2Proof.Machine
end

