-- ==== Sys2Proof/Tests/Slice0.lean ====
section
/-! SUPPORT. Tests of the TC-10 model. Expected values are worked by hand from the rules that each test names; the check
bytes of the telegrams were computed apart from the model, by a separate program from R2's words. -/

namespace Sys2Proof.Machine.Tests

open Sys2Proof Sys2Proof.Machine

set_option Elab.async false

/-! ### States the tests start from -/

/-- The state a command leads to. -/
def after (c : Instr) (s : State) : State :=
  match exec c s with
  | .next t => t
  | _ => s

/-- A loaded node entry without latency, PRESENT; a pad has threshold 40. -/
def node (station : Byte) (kind : NodeKind) (lane : Option Lane) (place : Option PoolEnd) (position : Option Nat) : Node :=
  ⟨⟨station, kind, lane, place, position, 0, if kind = .pad then 40 else 1, .edge, .normal⟩,
    ⟨.present, 0, 0, false, .below⟩⟩

def starter : Node := node 10 .starter none none none
def block : Node := node 24 .block (some 0) (some .start) none
def turnPad : Node := node 44 .pad (some 0) (some .turn) none
def lostPad : Node := { turnPad with run := { turnPad.run with presence := .absent } }
def startPad : Node := node 45 .pad (some 0) (some .start) none
def button : Node := node 63 .button (some 0) (some .turn) (some 1)
def panel : Node := node 80 .panel none none none
def lampNode : Node := node 90 .other none none none

/-- The stations of one lane, with the starter and the panel. -/
def stations : NodeTable :=
  ((((((Vector.replicate 64 none).set 0 (some starter)).set 1 (some block)).set 2 (some turnPad)).set 3
    (some startPad)).set 4 (some button)).set 5 (some panel)

/-- A module that serves orders, with no station. -/
def bare : State := { State.reset with loader := { State.reset.loader with load := .done } }

/-- A module that serves orders, with the stations above. -/
def pool : State := { bare with nodes := stations }

/-- Limits: 10 s a length, 60 s a heat, 5 s recall window, margin 30 ms, discrepancy 300 ms, button window 2 s. -/
def head (lengths legs : Nat) : HeatHead := ⟨7, 2, lengths, legs, 10000, 60, 5, 30, 300, 2, 0, 1⟩

/-- A bank with lane 0 occupied. -/
def bank (lengths legs : Nat) : Bank := ⟨some (head lengths legs), emptyBank.lanes.set 0 ⟨true, true, 5⟩⟩

/-- A lane that swims, behind some lengths at 12 s each. -/
def swimmer (count : Nat) : LaneRecord :=
  { vacantRecord with
    state := .swimming, lengthCount := count
    splits := (List.range' 1 count).map fun k => ⟨k, some (12000000 * k)⟩
    lastTouch := if count = 0 then none else some (12000000 * count) }

/-- A heat of some lengths, not started, with lane 0 WAITING. -/
def waiting (state : HeatState) (lengths : Nat) : State :=
  { pool with
    banks := { pool.banks with a := bank lengths 1 }, heat := ⟨state, none⟩
    lanes := pool.lanes.set 0 { vacantRecord with state := .waiting } }

/-- A heat started at tick 0, with a record in lane 0; the counter stands at `tick`. -/
def started (state : HeatState) (lengths legs : Nat) (record : LaneRecord) (tick : Tick) : State :=
  { pool with
    banks := { pool.banks with a := bank lengths legs }, heat := ⟨state, some 0⟩
    lanes := pool.lanes.set 0 record, clock := { pool.clock with tick := tick } }

/-- A station has been polled, and its answer window runs. -/
def asked (n : Node) (s : State) : State :=
  { s with deck := { s.deck with phase := .awaiting n.entry.station (freshTimer s.now 60) } }

/-- The state at another value of the tick counter. -/
def at' (tick : Tick) (s : State) : State := { s with clock := { s.clock with tick := tick } }

/-- The state with another owner of the channel. -/
def ownedBy (side : Side) (s : State) : State := { s with orders := { s.orders with owner := side } }

/-- The bytes of a REPORT of one item, age 0 (table 1-3). -/
def reportOf (n : Node) (code value : Byte) : List Byte :=
  frame ⟨1, n.entry.station, kindReport, [16 * code, 0, value, 0]⟩

/-- A board queue of 32 telegrams: some of a kind behind RESULTs. -/
def fullQueue (last : Telegram) : List Telegram := List.replicate 31 ⟨127, 1, kindResult, []⟩ ++ [last]

/-- The state with a board queue. -/
def queued (queue : List Telegram) (s : State) : State := { s with board := { s.board with queue := queue } }

/-- The laws of a node table, checked entry by entry. -/
def nodesChecked (s : State) : Bool :=
  decide (∀ i : Fin 64, (match s.nodes[i] with
      | some n => decide (StoredForm n.entry ∧ n.entry.station ≠ s.settings.station)
      | none => true) = true)
    && decide (∀ i j : Fin 64, (match s.nodes[i], s.nodes[j] with
      | some n, some m => decide (n.entry.station = m.entry.station → i = j)
      | _, _ => true) = true)
    && isStation s.settings.station

/-- Does no entry hold the station? -/
def holdsNone (s : State) (station : Byte) : Bool :=
  decide (∀ i : Fin 64, (match s.nodes[i] with
    | some n => n.entry.station != station
    | none => true) = true)

theorem nodeLaw_of_checked {s : State} (h : nodesChecked s = true) : NodeLaw s := by
  simp only [nodesChecked, Bool.and_eq_true, decide_eq_true_eq] at h
  obtain ⟨⟨entries, pairs⟩, station⟩ := h
  refine ⟨fun i n here => ?_, fun i j n m first second => ?_, station⟩
  · have := entries i
    simpa only [here, decide_eq_true_eq] using this
  · have := pairs i j
    simpa only [first, second, decide_eq_true_eq] using this

theorem pool_nodeLaw : NodeLaw pool := nodeLaw_of_checked (by decide +kernel)

theorem pool_served : ConsoleServed pool := ⟨⟨rfl, rfl⟩, rfl⟩

theorem pool_place : PlaceMade pool [] := rfl

theorem pool_free : PlacesFree 32 pool := ⟨rfl, by decide⟩

/-! ### Ill-formed commands are refused, one for each check of WellFormed -/

theorem test_wf_powerOn : WellFormed (.powerOn true 753) = false := by decide
theorem test_wf_misread : WellFormed (.saveDone 0 (.misread [])) = false := by decide
theorem test_wf_stoppedAtOnce : WellFormed (.saveDone 0 (.stopped 0)) = true := by decide
theorem test_wf_stoppedLate : WellFormed (.saveDone 0 (.stopped 753)) = false := by decide
theorem test_wf_incompleteAnswer : WellFormed (.deckAnswer 0 [1, 44, 17, 4, 0]) = false := by decide
theorem test_wf_shortOrderSource : WellFormed (.shortOrder 0 127 []) = false := by decide
theorem test_wf_shortOrderLong : WellFormed (.shortOrder 0 9 [1, 2, 3, 4]) = false := by decide
theorem test_wf_nonOrderSource : WellFormed (.boardNonOrder 0 0 33 []) = false := by decide
theorem test_wf_nonOrderIsOrder : WellFormed (.boardNonOrder 0 9 32 []) = false := by decide
theorem test_wf_nonOrderLong : WellFormed (.boardNonOrder 0 9 33 (List.replicate 49 0)) = false := by decide
theorem test_wf_passDestination : WellFormed (.passThrough 0 128 9 200 []) = false := by decide
theorem test_wf_passSource : WellFormed (.passThrough 0 44 0 200 []) = false := by decide
theorem test_wf_passLong : WellFormed (.passThrough 0 44 9 200 (List.replicate 49 0)) = false := by decide
theorem test_wf_knownCode : WellFormed (.orderUnknownCode 0 9 0 17 []) = false := by decide
theorem test_wf_orderSource : WellFormed (.arm 0 127 0 []) = false := by decide
theorem test_wf_orderLong : WellFormed (.stat 0 9 0 (List.replicate 45 0)) = false := by decide
theorem test_wf_firstIsContinuation : WellFormed (.tloadFirst 0 9 0 [0, 1, 0, 0]) = false := by decide
theorem test_wf_continuationIsFirst : WellFormed (.tloadContinuation 0 9 0 [1, 1, 0, 0]) = false := by decide
theorem test_wf_tctlRow : WellFormed (.tctlConfigure 0 9 0 [2]) = false := by decide
theorem test_wf_tctlKnownAction : WellFormed (.tctlUnknownAction 0 9 0 [6]) = false := by decide

/-! ### What the board line spells (tables 1-1, 1-4, 1-5) -/

theorem test_line_arm : boardCommand 1 7 [1, 9, 32, 4, 17, 5, 0, 0, 103, 204] = .arm 7 9 5 [] := by decide +kernel
theorem test_line_stat : boardCommand 1 7 [1, 9, 32, 4, 1, 5, 0, 0, 124, 107] = .stat 7 9 5 [] := by decide +kernel
theorem test_line_continuation : boardCommand 1 7 [1, 9, 32, 9, 16, 5, 0, 0, 0, 5, 0, 0, 3, 109, 160] =
    .tloadContinuation 7 9 5 [0, 5, 0, 0, 3] := by decide +kernel
theorem test_line_freeze : boardCommand 1 7 [1, 9, 32, 12, 24, 5, 0, 0, 2, 0, 0, 0, 0, 0, 0, 0, 242, 255] =
    .tctlFreeze 7 9 5 [2, 0, 0, 0, 0, 0, 0, 0] := by decide +kernel
theorem test_line_unknownCode : boardCommand 1 7 [1, 9, 32, 4, 11, 5, 0, 0, 20, 192] =
    .orderUnknownCode 7 9 5 11 [] := by decide +kernel
theorem test_line_shortOrder : boardCommand 1 7 [1, 9, 32, 2, 17, 5, 218, 5] = .shortOrder 7 9 [17, 5] := by decide +kernel
theorem test_line_nonOrder : boardCommand 1 7 [1, 9, 33, 0, 89, 50] = .boardNonOrder 7 9 33 [] := by decide +kernel
theorem test_line_passThrough : boardCommand 1 7 [44, 9, 200, 1, 1, 205, 162] = .passThrough 7 44 9 200 [1] := by decide +kernel
theorem test_line_badCheck : boardCommand 1 7 [1, 9, 33, 0, 89, 51] = .boardBadTelegram 7 := by decide +kernel
/-- A byte behind the 6 + length bytes of a telegram is ignored (R1). -/
theorem test_line_bytesBehind : boardCommand 1 7 [1, 9, 32, 4, 17, 5, 0, 0, 103, 204, 9] = .arm 7 9 5 [] := by
  decide +kernel
theorem test_line_tableWord : decodeTableWord 8 0 = none := rfl

/-! ### Commands, one by one -/

/-- HOLD follows the strap, and the load is under way (R175, R176). -/
theorem test_powerOn : (after (.powerOn true 0) pool).loader = ⟨.loading, true, .idle, ⟨[]⟩⟩ := by decide +kernel
/-- A blank memory: the load is DONE and CONFIG_INVALID stands (R174, R175). -/
theorem test_loadDone : ((after (.loadDone 9 true) State.reset).notice .configInvalid).status = true := by decide +kernel
/-- The save state returns to IDLE (R177). -/
theorem test_saveDone : (after (.saveDone 9 (.stopped 1))
    { pool with loader := { pool.loader with save := .writing [] } }).loader.save = .idle := by decide +kernel
/-- The POLL carries no payload, from station 1 (table 1-2, R7). -/
theorem test_poll : (after (.poll 5) pool).deck.line = some ⟨10, 1, 16, []⟩ := by decide +kernel
/-- The POLL to the panel carries the notice summary (R7, R165). -/
theorem test_pollPanel : (after (.poll 5) { pool with deck := { pool.deck with normalPointer := 5 } }).deck.line =
    some ⟨80, 1, 16, [0, 0]⟩ := by decide +kernel
/-- 1 ms of quiet follows an empty round (R12). -/
theorem test_emptyRound : (after (.emptyRound 5) bare).deck.phase = .quiet ⟨5, 1000, 0⟩ := by decide +kernel
/-- A touch at 25 s finishes a heat of one length at that time (R98, R100). -/
theorem test_deckAnswer : (after (.deckAnswer 25000000 [1, 44, 17, 4, 16, 0, 100, 0, 64, 27])
    (at' 24999960 (asked turnPad (started .running 1 1 (swimmer 0) 0)))).lanes[0].padFinish = some 25000000 := by
  decide +kernel
/-- A RECALL after the window counts, and the heat goes on (R78, R79). -/
theorem test_deckAnswer_lateRecall : (after (.deckAnswer 5000001 (reportOf starter 6 0))
    (asked starter (started .running 1 1 (swimmer 0) 5000000))).heat = ⟨.running, some 0⟩ := by decide +kernel
/-- The eighth miss makes the station ABSENT (R10). -/
theorem test_answerWindowMiss : ((after (.answerWindowMiss 60) (asked turnPad { pool with
    nodes := pool.nodes.set 2 (some { turnPad with run := { turnPad.run with missCount := 7 } }) })).nodes[2].map
    fun n => n.run) = some ⟨.absent, 8, 0, false, .below⟩ := by decide +kernel
theorem test_deckBadTelegram : ((after (.deckBadTelegram 60) (asked turnPad pool)).nodes[2].map fun n => n.run.missCount) =
    some 1 := by decide +kernel
/-- A queued QUERY goes out in the gap (R21). -/
theorem test_commandGap : (after (.commandGap 5) { pool with deck := { pool.deck with
    phase := .gap, queue := [⟨.query, ⟨44, 1, 19, [7]⟩⟩] } }).deck.line = some ⟨44, 1, 19, [7]⟩ := by decide +kernel
/-- 20 ms answer limit (R162). -/
theorem test_querySent : (after (.querySent 5) { pool with
    deck := { pool.deck with queryOnLine := true }
    orders := { pool.orders with slot := .waiting ⟨44, [7]⟩ none } }).orders.slot =
    .waiting ⟨44, [7]⟩ (some ⟨5, 20000, 0⟩) := by decide +kernel

/-- A counter of BAD_CHECK events of any lane and station, enabled, and nearly full. -/
def badChecks : TallyCounter := ⟨16777214, 17, BitVec.allOnes 11, 0, 0, true, false, false⟩

/-- The pool with that counter. -/
def tallied : State := { pool with tally := { pool.tally with counters := pool.tally.counters.set 0 badChecks } }

theorem test_boardBadTelegram : (after (.boardBadTelegram 5) tallied).tally.counters[0].count = 16777215 := by
  decide +kernel
/-- The count wraps and the overflow flag is set (R170). -/
theorem test_shortOrder : (after (.shortOrder 6 9 []) (after (.boardBadTelegram 5) tallied)).tally.counters[0] =
    { badChecks with count := 0, overflow := true } := by decide +kernel
theorem test_boardNonOrder : (after (.boardNonOrder 5 9 33 []) tallied).tally.counters[0].count = 16777215 := by
  decide +kernel
/-- The sender's source stays until the telegram is sent (R3, R140). -/
theorem test_passThrough : (after (.passThrough 5 44 9 200 [1]) pool).deck.queue =
    [⟨.passThrough, ⟨44, 9, 200, [1]⟩⟩] := by decide +kernel
/-- A destination no node entry holds is not passed (R140). -/
theorem test_passThrough_unknown : (after (.passThrough 5 46 9 200 [1]) pool).deck.queue = [] := by decide +kernel
/-- A NOTICE is 7 bytes: 70 µs and 40 µs of quiet (R131, table 8-2). -/
theorem test_boardSend : (after (.boardSend 5) (queued [⟨127, 1, 55, [1]⟩] pool)).board =
    ⟨[], false, some ⟨127, 1, 55, [1]⟩, some ⟨5, 110, 0⟩⟩ := by decide +kernel
theorem test_orderUnknownCode : (after (.orderUnknownCode 5 9 3 11 []) pool).board.queue =
    [⟨9, 1, 33, [11, 3, 4, 13]⟩] := by decide +kernel
/-- Both banks EMPTY, bank A active, no lane in the finish order list, station 1 (table 10-3). -/
theorem test_stat : (after (.stat 5 9 3 []) pool).board.queue = [⟨9, 1, 33, [1, 3, 0, 0, 0, 12, 0, 255, 255, 255, 255,
    255, 255, 255, 255, 255, 255, 0, 0, 0, 0, 0, 0, 0, 0, 0, 1]⟩] := by decide +kernel
/-- Two lengths at 12 and 24 s: 12,000,000 is 00 B7 1B 00 and 24,000,000 is 01 6E 36 00 in hexadecimal. -/
theorem test_lane : (after (.lane 5 9 3 [0, 1]) (started .running 4 1 (swimmer 2) 0)).board.queue =
    [⟨9, 1, 33, [2, 3, 0, 0, 0, 1, 2, 0, 1, 0, 183, 27, 0, 1, 1, 110, 54, 0]⟩] := by decide +kernel
theorem test_lane_noData : (after (.lane 5 9 3 [0, 3]) (started .running 4 1 (swimmer 2) 0)).board.queue =
    [⟨9, 1, 33, [2, 3, 5, 0]⟩] := by decide +kernel
/-- Two notices of twelve, enabled toward BOARD; asked beyond the end, TRUNC (R63). -/
theorem test_tread : (after (.tread 5 9 3 [5, 0, 10, 4]) pool).board.queue =
    [⟨9, 1, 33, [3, 3, 6, 0, 5, 10, 2, 0, 1, 0, 1, 0]⟩] := by decide +kernel
theorem test_treadTally : (after (.treadTally 5 9 3 [0, 1]) tallied).board.queue =
    [⟨9, 1, 33, [4, 3, 0, 0, 0, 0, 0, 17, 7, 255, 0, 0, 1, 255, 255, 254]⟩] := by decide +kernel
theorem test_mailr : (after (.mailr 5 9 3 [4]) pool).board.queue = [⟨9, 1, 33, [5, 3, 4, 1]⟩] := by decide +kernel
theorem test_mailw : (after (.mailr 6 9 4 [2]) (after (.mailw 5 9 3 [2, 1, 2, 3, 4, 5, 6, 7, 8]) pool)).board.queue =
    [⟨9, 1, 33, [6, 3, 0, 0]⟩, ⟨9, 1, 33, [5, 4, 0, 0, 1, 2, 3, 4, 5, 6, 7, 8]⟩] := by decide +kernel
/-- HEAT_CHANGE is kind 6: bit 5 (R166, table 1-11). -/
theorem test_nclr : (after (.nclr 5 9 3 [0, 32]) (setStatus .overrun true (setStatus .heatChange true pool))).board.queue =
    [⟨9, 1, 33, [7, 3, 0, 0, 1, 0]⟩] := by decide +kernel
theorem test_nqry : (after (.nqry 5 9 3 [44, 7]) pool).deck.queue = [⟨.query, ⟨44, 1, 19, [7]⟩⟩] := by decide +kernel
theorem test_nqry_unknown : (after (.nqry 5 9 3 [46]) pool).board.queue = [⟨9, 1, 33, [8, 3, 4, 1]⟩] := by decide +kernel
theorem test_relh : (after (.relh 5 9 3 []) { pool with loader := { pool.loader with hold := true } }).loader.hold = false := by
  decide +kernel
theorem test_crel : (after (.crel 5 9 3 []) pool).board.queue = [⟨9, 1, 33, [10, 3, 0, 0, 0]⟩] := by decide +kernel
/-- Notices 3 and 4 (indices 2 and 3) written, the chain closed: next index 255, no entry refused (R158, R159). -/
theorem test_tloadFirst : (after (.tloadFirst 5 9 3 [1, 5, 2, 2, 0, 3]) pool).board.queue =
    [⟨9, 1, 33, [16, 3, 0, 0, 2, 0, 255, 255]⟩] := by decide +kernel
theorem test_tloadContinuation : (after (.tloadContinuation 6 9 4 [0, 0, 0, 0, 0])
    (after (.tloadFirst 5 9 3 [1, 5, 2, 3, 0]) pool)).board.queue =
    [⟨9, 1, 33, [16, 3, 0, 0, 1, 0, 255, 3]⟩, ⟨9, 1, 33, [16, 4, 0, 0, 1, 0, 255, 4]⟩] := by decide +kernel
/-- HEAT carrying ARMED with event 7 and heat 2, its NOTICE, then the RESPONSE (R67, R73). -/
theorem test_arm : (after (.arm 5 9 3 []) { pool with banks := { pool.banks with b := bank 4 2 } }).board.queue =
    [⟨127, 1, 53, [1, 0, 7, 2]⟩, ⟨127, 1, 55, [6]⟩, ⟨9, 1, 33, [17, 3, 0, 0]⟩] := by decide +kernel
/-- Six lengths in four legs fail check 4 (R66). -/
theorem test_arm_refused : (after (.arm 5 9 3 []) { pool with banks := { pool.banks with b := bank 6 4 } }).board.queue =
    [⟨9, 1, 33, [17, 3, 4, 4]⟩] := by decide +kernel
theorem test_endh : (after (.endh 5 9 3 []) (started .running 1 1 (swimmer 0) 4)).clock.buttonWindow =
    some ⟨5, 2000000, 0⟩ := by decide +kernel
theorem test_abort : (after (.abort 5 9 3 []) (started .running 1 1 (swimmer 0) 4)).lanes[0].state = .waiting := by
  decide +kernel
theorem test_clear : (after (.clear 5 9 3 []) (waiting .armed 1)).heat = ⟨.idle, none⟩ := by decide +kernel
/-- The only swimmer is disqualified: swimming is done (R80, R112). -/
theorem test_mark : (after (.mark 5 9 3 [0, 1]) (started .running 1 1 (swimmer 0) 4)).heat = ⟨.closing, some 0⟩ := by
  decide +kernel
theorem test_mark_idle : (after (.mark 5 9 3 [0, 1]) pool).board.queue = [⟨9, 1, 33, [21, 3, 3, 0]⟩] := by decide +kernel
/-- The backup time of one sample becomes official, and the revision rises (R54, R123, R126). -/
theorem test_src : (after (.src 5 9 3 [0, 2]) (started .closed 1 1 { swimmer 1 with
    state := .finished, padFinish := some 25000000, official := some 25000000, source := .pad
    samples := [⟨1, 24900000⟩] } 4)).lanes[0].official = some 24900000 := by decide +kernel
/-- 1,000,000 is 0F 42 40 in hexadecimal. -/
theorem test_tset : (after (.tset 5 9 3 [7, 15, 66, 64]) pool).tally.counters[7].count = 1000000 := by decide +kernel
theorem test_tctlConfigure : (after (.tctlConfigure 5 9 3 [1, 0, 12, 4, 1, 44, 127, 3]) pool).tally.counters[0] =
    ⟨0, 12, 1025, 44, 127, true, true, false⟩ := by decide +kernel
theorem test_tctlFreeze : (after (.tctlFreeze 5 9 3 [2, 0, 0, 0, 0, 0, 0, 0]) pool).tally.frozen = true := by
  decide +kernel
theorem test_tctlUnfreeze : (after (.tctlUnfreeze 5 9 3 [3, 0, 0, 0, 0, 0, 0, 0])
    { pool with tally := { pool.tally with frozen := true } }).tally.frozen = false := by decide +kernel
theorem test_tctlZero : (after (.tctlZero 5 9 3 [4, 0, 0, 0, 0, 0, 0, 0]) tallied).tally.counters[0] =
    { badChecks with count := 0 } := by decide +kernel
theorem test_tctlClearOverflow : (after (.tctlClearOverflow 5 9 3 [5, 255, 0, 0, 0, 0, 0, 0]) { pool with
    tally := { pool.tally with counters := pool.tally.counters.set 3 { badChecks with overflow := true } } }).tally.counters[3]
    = badChecks := by decide +kernel
/-- Bit 2 of the flags (R172). -/
theorem test_tctlSetMode : (after (.tctlSetMode 5 9 3 [6, 0, 0, 0, 0, 0, 0, 4]) pool).tally.freezeOnOverflow = true := by
  decide +kernel
theorem test_tctlUnknownAction : (after (.tctlUnknownAction 5 9 3 [0, 0, 0, 0, 0, 0, 0, 0]) pool).board.queue =
    [⟨9, 1, 33, [24, 3, 4, 3]⟩] := by decide +kernel
theorem test_save : (after (.save 5 9 3 []) { pool with loader := { pool.loader with save := .writing [] } }).board.queue =
    [⟨9, 1, 33, [25, 3, 3, 0]⟩] := by decide +kernel
/-- HEAT carrying IDLE, with the active bank's numbers 0 and 0, and the RESPONSE are the whole board queue (R139, R167). -/
theorem test_trst : (after (.trst 5 9 3 []) (queued (fullQueue ⟨127, 1, 54, []⟩) pool)).board.queue =
    [⟨127, 1, 53, [0, 0, 0, 0]⟩, ⟨9, 1, 33, [26, 3, 0, 0]⟩] := by decide +kernel

/-- Lane 0 is lit on the line at station 44; its unsent LAMP off has been replaced by a LAMP of lane 1 for that station. -/
def lampReplaced : State :=
  { pool with
    lamps := { pool.lamps with records :=
      (pool.lamps.records.set 0 ⟨none, false, true, some 44⟩).set 1 ⟨some 0, true, false, some 44⟩ }
    deck := { pool.deck with queue := [⟨.lamp 1, ⟨44, 1, kindLamp, [1]⟩⟩] } }

/-- The lamp last sent lit is darkened (R21, R148). -/
theorem test_trst_lampReplaced : (after (.trst 5 9 3 []) lampReplaced).deck.queue.map (fun e => e.telegram) =
    [⟨44, 1, kindLamp, [0]⟩] := by decide +kernel

/-- A heat with one timer run out. -/
def limited : State :=
  { started .running 1 1 (swimmer 0) 60000000 with
    clock := ⟨60000000, some ⟨0, 60000000, 60000000⟩, none, some ⟨0, 60000000, 599⟩, none, none⟩ }

theorem test_heatLimitExpiry : (after (.heatLimitExpiry 60000000) limited).heat.state = .closing := by decide +kernel
/-- Not due one microsecond early (R43). -/
theorem test_heatLimitExpiry_early : (after (.heatLimitExpiry 60000000)
    { limited with clock := { limited.clock with heatLimit := some ⟨0, 60000000, 59999999⟩ } }).heat.state = .running := by
  decide +kernel
theorem test_recallWindowExpiry : (after (.recallWindowExpiry 5000000) { limited with
    clock := ⟨5000000, none, some ⟨0, 5000000, 5000000⟩, none, none, none⟩ }).clock.recallWindow = none := by decide +kernel
/-- The 600th step, 02 58 in hexadecimal, in RUNNING (R45, R87). -/
theorem test_clockStepExpiry : (after (.clockStepExpiry 60000000) limited).board.queue =
    [⟨127, 1, 48, [3, 0, 0, 2, 88]⟩] := by decide +kernel
theorem test_buttonWindowExpiry : (after (.buttonWindowExpiry 7) { started .closing 1 1 (swimmer 0) 7 with
    clock := ⟨7, none, none, none, some ⟨0, 7, 7⟩, none⟩ }).lanes[0].state = .noTime := by decide +kernel
theorem test_resultHoldExpiry : (after (.resultHoldExpiry 7) { started .closed 1 1 vacantRecord 7 with
    banks := ⟨bank 1 1, bank 2 1, .a, true⟩, clock := ⟨7, none, none, none, none, some ⟨0, 7, 7⟩⟩ }).banks.active = .b := by
  decide +kernel

/-- PANEL owns the channel, CONSOLE's claim is live, and both wait on timers that have run out. -/
def claimed : State :=
  { pool with
    clock := { pool.clock with tick := 7 }
    orders := { pool.orders with owner := .panel, claim := some ⟨0, 7, 7⟩, handover := some ⟨0, 7, 7⟩ } }

theorem test_claimExpiry : (after (.claimExpiry 7) claimed).orders.handover = none := by decide +kernel
theorem test_handoverExpiry : (after (.handoverExpiry 7) claimed).orders.owner = .console := by decide +kernel
theorem test_homeExpiry : (after (.homeExpiry 7) { claimed with
    settings := { claimed.settings with mode := .home }
    orders := { claimed.orders with home := some ⟨0, 7, 7⟩ } }).orders.owner = .console := by decide +kernel
theorem test_chainGapExpiry : (after (.chainGapExpiry 7) { claimed with
    orders := { claimed.orders with handover := none, chain := some ⟨.bank, 1, 2, ⟨0, 7, 7⟩⟩ } }).orders.chain = none := by
  decide +kernel
theorem test_queryAnswerExpiry : (after (.queryAnswerExpiry 7) { claimed with
    orders := { claimed.orders with slot := .waiting ⟨44, []⟩ (some ⟨0, 7, 7⟩) } }).orders.slot =
    .held ⟨44, []⟩ .noResponse ⟨7, 5000000, 0⟩ := by decide +kernel
theorem test_collectionExpiry : (after (.collectionExpiry 7) { claimed with
    orders := { claimed.orders with slot := .held ⟨44, []⟩ .noResponse ⟨0, 7, 7⟩ } }).orders.slot = .free := by
  decide +kernel
/-- Phase 99 of 100 goes back to 0 (R143). -/
theorem test_lampPhaseStep : (after (.lampPhaseStep 10000) { pool with lamps := { pool.lamps with
    patterns := pool.lamps.patterns.set 0 ⟨⟨100, 0, 50⟩, none, 99, .none⟩ } }).lamps.patterns[0].phase = 0 := by
  decide +kernel

/-- No second RESPONSE joins the deck command queue (R19). -/
theorem test_secondResponse : insertDeck ⟨.response, ⟨45, 1, 33, [9]⟩⟩ [⟨.response, ⟨44, 1, 33, [8]⟩⟩] =
    some [⟨.response, ⟨44, 1, 33, [8]⟩⟩] := by decide +kernel

/-- The middle of three, and the floor of half a sum (R54). -/
theorem test_backup : backupTime [⟨3, 30⟩, ⟨1, 10⟩, ⟨2, 25⟩] = some 25 ∧ backupTime [⟨1, 10⟩, ⟨2, 25⟩] = some 17 := by
  decide

/-! ### Witnesses: states and operands that meet the hypotheses of each statement, clause by clause -/

theorem witness_StepTakesFrontCommand : bare.pending = [] := rfl

/-- The largest latency and age, and the ends of the range of a difference. -/
theorem witness_TickArithmetic : (2000 ≤ 2000 ∧ 4095 ≤ 4095) ∧ ((-2147483648 : Int) ≤ -2147483648
    ∧ (-2147483648 : Int) ≤ 2147483647) := by decide

/-- The check of a run whose first two bytes bring it to a value that the byte repeated behind them keeps. -/
theorem crc16_run (first second fill : Byte) (crc : BitVec 16) (n : Nat) (rest : List Byte)
    (brought : crcByte (crcByte 0xFFFF#16 first) second = crc) (kept : crcByte crc fill = crc) :
    crc16 (first :: second :: (List.replicate n fill ++ rest)) = rest.foldl crcByte crc := by
  have fills : ∀ n, (List.replicate n fill).foldl crcByte crc = crc := by
    intro n
    induction n with
    | zero => rfl
    | succ n ih => rw [List.replicate_succ, List.foldl_cons, kept, ih]
  rw [crc16, List.foldl_cons, List.foldl_cons, brought, List.foldl_append, fills]

/-- An image whose parts' check is 0, and a memory with other parts. -/
def anImage : List Byte := 255 :: 255 :: (List.replicate 746 0 ++ [0, 0])
def oldMemory : Memory := ⟨[(0, 95), (1, 234)]⟩

theorem anImage_checks : crc16 anImage = 0 ∧ crc16 (anImage.take 748) = 0 := by
  have run := fun n rest => crc16_run 255 255 0 0 n rest (by decide +kernel) (by decide +kernel)
  have parts : anImage.take 748 = 255 :: 255 :: (List.replicate 746 0 ++ []) := by decide +kernel
  exact ⟨(run 746 [0, 0]).trans (by decide +kernel), by rw [parts, run]; rfl⟩

/-- The state that writes the image over that memory. -/
def writing : State := { pool with loader := { pool.loader with save := .writing anImage, memory := oldMemory } }

/-- Cut after two bytes, the parts are those of the memory written over, and their check is 5FEA in hexadecimal. -/
theorem writing_cut : (after (.powerOn true 2) writing).loader.memory.bytes 748 =
    95 :: 234 :: (List.replicate 746 255 ++ []) := by decide +kernel

theorem writing_mixes :
    crc16 ((after (.powerOn true 2) writing).loader.memory.bytes 748) ≠ ~~~crc16 (anImage.take 748) := by
  rw [writing_cut, crc16_run 95 234 255 0x5FEA 746 [] (by decide +kernel) (by decide +kernel), anImage_checks.2]
  decide +kernel

theorem anImage_length : anImage.length = 750 := by decide +kernel

theorem oldMemory_wf : oldMemory.wf := by decide

theorem witness_PowerOnAbandonsWrite : (2 ≤ 2 ∧ 750 ≤ 750 ∧ 751 ≤ 751 ∧ 752 ≤ 752)
    ∧ writing.loader.save = .writing anImage ∧ anImage.length = 750 ∧ writing.loader.memory.wf ∧ crc16 anImage = 0
    ∧ crc16 ((after (.powerOn true 2) writing).loader.memory.bytes 748) ≠ ~~~crc16 (anImage.take 748) :=
  ⟨by decide, rfl, anImage_length, oldMemory_wf, anImage_checks.1, writing_mixes⟩

theorem witness_LoadWithoutImageTakesDefaults : State.reset.loader.load = .loading
    ∧ imageGood true (State.reset.loader.memory.bytes 750) = false := by
  decide +kernel

/-- The memory that holds an image. -/
def memoryOf (image : List Byte) : Memory :=
  ⟨(image.zipIdx.map fun p => (p.2, p.1)).filter fun c => c.2 != unwrittenByte⟩

/-- A loading module whose memory holds the image of the bare one. -/
def holdingImage : State := { State.reset with loader := { State.reset.loader with memory := memoryOf (imageOf bare) } }

theorem bare_nodeLaw : NodeLaw bare := nodeLaw_of_checked (by decide +kernel)

theorem bare_patterns : ∀ p : Fin 3, PatternStored bare.lamps.patterns[p]
  | 0 => ⟨(by decide : 2 ≤ 100 ∧ 100 ≤ 255 ∧ 0 ≤ 100 ∧ 100 ≤ 100), fun _ h => nomatch h⟩
  | 1 => ⟨(by decide : 2 ≤ 100 ∧ 100 ≤ 255 ∧ 0 ≤ 0 ∧ 0 ≤ 100), fun _ h => nomatch h⟩
  | 2 => ⟨(by decide : 2 ≤ 100 ∧ 100 ≤ 255 ∧ 0 ≤ 0 ∧ 0 ≤ 100), fun _ h => nomatch h⟩

/-- A memory that holds an image reads back as it, from any address on. -/
theorem readRun_image (image : List Byte) (address : Nat) :
    readRun image.length address (((image.zipIdx address).map fun p => (p.2, p.1)).filter fun c => c.2 != unwrittenByte)
      = image := by
  have behind : ∀ (l : List Byte) (a k : Nat), k < a → ∀ rest,
      rest = (((l.zipIdx a).map fun p => (p.2, p.1)).filter fun c : Host.Cell => c.2 != unwrittenByte) →
      readRun (l.length + 1) k rest = unwrittenByte :: readRun l.length (k + 1) rest := by
    intro l a k less rest is
    cases rest with
    | nil => rfl
    | cons c cs =>
      have mem : c ∈ (((l.zipIdx a).map fun p => (p.2, p.1)).filter fun c : Host.Cell => c.2 != unwrittenByte) := by
        rw [← is]; exact List.mem_cons_self
      simp only [List.mem_filter, List.mem_map] at mem
      obtain ⟨⟨p, inside, rfl⟩, _⟩ := mem
      have := List.le_snd_of_mem_zipIdx inside
      simp only [readRun]
      rw [if_neg (by omega)]
  induction image generalizing address with
  | nil => rfl
  | cons b rest ih =>
    simp only [List.zipIdx_cons, List.map_cons, List.length_cons]
    by_cases blank : b = unwrittenByte
    · subst blank
      rw [List.filter_cons_of_neg (by simp)]
      rw [behind rest (address + 1) address (Nat.lt_succ_self _) _ rfl, ih]
    · rw [List.filter_cons_of_pos (by simpa using blank)]
      simp [readRun, ih]

theorem witness_LoadTakesBackSavedTables : holdingImage.loader.load = .loading ∧ NodeLaw bare
    ∧ (∀ p : Fin 3, PatternStored bare.lamps.patterns[p]) ∧ holdingImage.loader.memory.bytes 750 = imageOf bare :=
  by
  refine ⟨rfl, bare_nodeLaw, bare_patterns, ?_⟩
  have length : (imageOf bare).length = 750 := by decide +kernel
  have := readRun_image (imageOf bare) 0
  rwa [length] at this

/-- A read-back that is the image, one whose check is another, and a memory that acknowledges no byte, or all of the write. -/
theorem witness_SaveWritesTheImage :
    let agrees (read : List Byte) : Prop :=
      read.drop 748 = anImage.drop 748 ∧ be16 (crc16 (read.take 748)) = anImage.drop 748
    (ConsoleServed pool ∧ PlaceMade pool [] ∧ pool.loader.save = .idle)
      ∧ ConsoleServed writing ∧ PlaceMade writing [] ∧ writing.loader.save = .writing anImage
      ∧ anImage.length = 750 ∧ writing.loader.memory.wf
      ∧ agrees anImage ∧ (List.replicate 750 (7 : Byte)).length = 750 ∧ ¬ agrees (List.replicate 750 7)
      ∧ 0 ≤ 752 ∧ 752 ≤ 752 := by
  refine ⟨⟨pool_served, pool_place, rfl⟩, ⟨⟨rfl, rfl⟩, rfl⟩, rfl, rfl, anImage_length, oldMemory_wf, ⟨rfl, ?_⟩,
    by decide +kernel, fun h => ?_,
    by decide, by decide⟩
  · rw [anImage_checks.2]; decide +kernel
  · exact absurd h.1 (by decide +kernel)

/-- The pool, its starter polled in the priority class, with four normal visits made. -/
def priorityDue : State :=
  { pool with
    nodes := pool.nodes.set 0 (some { starter with entry := { starter.entry with pollClass := .priority } })
    deck := { pool.deck with normalCount := 4 } }

/-- The pool at the end of a round: entry 5 has been visited, and what is left of the table is empty. -/
def roundDone : State := { pool with deck := { pool.deck with normalPointer := 6, roundVisited := true } }

/-- The pool with the Deck Poller in a phase. -/
def phased (phase : DeckPhase) : State := { pool with deck := { pool.deck with phase := phase } }

theorem starter_visited (s : State) (here : s.nodes[0] = some starter) : ¬ PassedOver s 0 := by
  rintro (none | ⟨⟨⟨n, at', kind⟩, _⟩, _⟩ | ⟨n, at', absent, _⟩)
  · exact nomatch here.symm.trans none
  · cases here.symm.trans at'; exact nomatch kind
  · cases here.symm.trans at'; exact nomatch absent

theorem pool_empty : ∀ j : Fin 64, 6 ≤ j → pool.nodes[j] = none := by decide +kernel

theorem roundDone_begins : RoundBegins roundDone (roundDone.setNodes pool.nodes) := by
  refine .inr ⟨rfl, pool.nodes, rfl, fun j => ⟨fun _ => rfl, fun behind => ?_⟩⟩
  have here : roundDone.nodes[j] = none := pool_empty j behind
  exact ⟨.inl here, fun _ => rfl, fun n at' => nomatch here.symm.trans at'⟩

theorem witness_PollChoosesVisit :
    (Serving pool ∧ NodeLaw pool ∧ Chooses 5 pool ∧ pool.nodes[0] = some starter
      ∧ pool.deck.normalCount < 4 ∧ pool.deck.normalPointer ≤ 0 ∧ ¬ PassedOver pool 0
      ∧ ∀ j : Fin 64, pool.deck.normalPointer ≤ j → j < 0 → PassedOver pool j)
    ∧ (Serving roundDone ∧ NodeLaw roundDone ∧ Chooses 5 roundDone ∧ roundDone.deck.normalCount < 4
      ∧ RoundBegins roundDone (roundDone.setNodes pool.nodes)
      ∧ (roundDone.setNodes pool.nodes).nodes[0] = some starter ∧ ¬ PassedOver (roundDone.setNodes pool.nodes) 0)
    ∧ (Chooses 5 (phased .gap) ∧ Chooses 1000 (phased (.quiet ⟨0, 1000, 0⟩)))
    ∧ Serving priorityDue ∧ NodeLaw priorityDue ∧ Chooses 5 priorityDue ∧ 4 ≤ priorityDue.deck.normalCount
      ∧ NextInRotation (PriorityMember (advanceTo 5 priorityDue)) priorityDue.deck.priorityPointer 0 := by
  refine ⟨⟨⟨rfl, rfl⟩, pool_nodeLaw, .inl rfl, rfl, by decide, by decide, starter_visited _ rfl,
      fun j _ h => absurd h (Nat.not_lt_zero _)⟩,
    ⟨⟨rfl, rfl⟩, pool_nodeLaw, .inl rfl, by decide, roundDone_begins, rfl, starter_visited _ rfl⟩,
    ⟨.inr (.inl ⟨rfl, rfl⟩), .inr (.inr ⟨⟨0, 1000, 1000⟩, rfl, by decide⟩)⟩,
    ⟨rfl, rfl⟩, nodeLaw_of_checked (by decide +kernel), .inl rfl, by decide, ?_,
    fun j h => absurd h (Nat.not_lt_zero _)⟩
  refine ⟨⟨_, rfl, nofun, .inl rfl⟩, ?_⟩
  rintro ⟨_, e, here, _⟩
  exact nomatch here

/-- A filter entry that gives every item of every station one action. -/
def filtered (action : FilterAction) (s : State) : State :=
  { s with filters := pool.filters.set 3 (some ⟨0, 0, BitVec.allOnes 7, action⟩) }

theorem unfiltered (s : State) (station : Byte) (code : ItemCode) (filters : s.filters = pool.filters) :
    Unfiltered s station code := by
  intro k f here
  rw [filters] at here
  have none : ∀ k : Fin 16, pool.filters[k] = .none := by decide +kernel
  exact absurd ((none k).symm.trans here) nofun

theorem filtered_gives (action : FilterAction) (s : State) (station : Byte) (code : ItemCode) :
    FilterGives (filtered action s) station code action := by
  have items : ∀ code, (BitVec.allOnes 7).getLsbD (itemNumber code - 1) = true := by intro code; cases code <;> decide
  refine ⟨3, ⟨0, 0, BitVec.allOnes 7, action⟩, rfl, ⟨fun b _ h => ?_, items code⟩, rfl,
    fun j g before here => ?_⟩
  · exact absurd h (by simp)
  · match j, before, here with
    | 0, _, here => exact nomatch here
    | 1, _, here => exact nomatch here
    | 2, _, here => exact nomatch here

/-- A REPORT of one item of age 0, from a station of the pool, in a state that differs from the pool in other blocks. -/
theorem reported (s : State) (i : Fin 64) (n : Node) (number : Nat) (value : Byte)
    (here : s.nodes = pool.nodes) (settings : s.settings = pool.settings) (at' : pool.nodes[i] = some n)
    (present : n.run.presence = .present) (small : number ≤ 15)
    (awaited : ∃ window, s.deck.phase = .awaiting n.entry.station window)
    (received : receive (reportOf n (byteOf number) value) =
      .good ⟨1, n.entry.station, kindReport, [byteOf (16 * number + 0 / 256), byteOf (0 % 256), value, 0]⟩) :
    Reported s (reportOf n (byteOf number) value) i n number 0 value where
  node := by rw [here]; exact at'
  present := present
  awaited := awaited
  report := ⟨small, by decide, 0, by rw [settings]; exact received⟩
  table := by unfold NodeLaw; rw [here, settings]; exact pool_nodeLaw

theorem soleItem (s : State) (i : Fin 64) (n : Node) (code : ItemCode) (value : Byte)
    (here : s.nodes = pool.nodes) (settings : s.settings = pool.settings) (at' : pool.nodes[i] = some n)
    (present : n.run.presence = .present) (filters : s.filters = pool.filters)
    (awaited : ∃ window, s.deck.phase = .awaiting n.entry.station window)
    (received : receive (reportOf n (byteOf (itemNumber code)) value) =
      .good ⟨1, n.entry.station, kindReport, [byteOf (16 * itemNumber code + 0 / 256), byteOf (0 % 256), value, 0]⟩) :
    SoleItem s (reportOf n (byteOf (itemNumber code)) value) i n code 0 value false where
  reported := reported s i n _ value here settings at' present (by cases code <;> decide) awaited received
  judged := .inr ⟨rfl, unfiltered s _ code filters⟩
  quiet := nofun

/-- The same item when the filter table gives every item COPY. -/
theorem copiedItem {s : State} {bytes : List Byte} {i : Fin 64} {n : Node} {code : ItemCode} {value : Byte}
    (item : SoleItem s bytes i n code 0 value false) :
    SoleItem (filtered .copy s) bytes i n code 0 value true where
  reported := ⟨item.reported.node, item.reported.present, item.reported.awaited, item.reported.report,
    item.reported.table⟩
  judged := .inl (filtered_gives .copy s _ code)
  quiet := nofun

/-- The pool with the pad at the turn end ABSENT. -/
def padLost : State := { pool with nodes := pool.nodes.set 2 (some lostPad) }

theorem padLost_nodeLaw : NodeLaw padLost := nodeLaw_of_checked (by decide +kernel)

/-- An empty REPORT of a PRESENT and of an ABSENT station; an item of a station no entry holds; item codes 0 and 8; a PRESS
of a pad; and a CONTACT and a GENERIC item under each action. -/
theorem witness_GoodAnswerMakesPresent :
    let good := receive (frame ⟨1, 44, kindReport, []⟩) = .good ⟨1, 44, kindReport, []⟩
    let pad := asked turnPad pool
    (NodeLaw pad ∧ pad.nodes[2] = some turnPad ∧ pad.deck.phase = .awaiting 44 ⟨0, 60, 0⟩ ∧ good
      ∧ turnPad.run.presence ≠ .absent)
    ∧ (NodeLaw (asked turnPad padLost) ∧ (asked turnPad padLost).nodes[2] = some lostPad
      ∧ (asked turnPad padLost).deck.phase = .awaiting 44 ⟨0, 60, 0⟩ ∧ good)
    ∧ (holdsNone (asked lampNode pool) 90 = true ∧ (asked lampNode pool).deck.phase = .awaiting 90 ⟨0, 60, 0⟩
      ∧ ReportOf (asked lampNode pool) 90 1 0 5 (reportOf lampNode 1 5))
    ∧ PlacesFree 1 pad ∧ Reported pad (reportOf turnPad 0 5) 2 turnPad 0 0 5
    ∧ Reported pad (reportOf turnPad 8 5) 2 turnPad 8 0 5
    ∧ (Reported pad (reportOf turnPad 3 5) 2 turnPad (itemNumber .press) 0 5 ∧ ¬ Belongs pad 2 turnPad .press)
    ∧ (Reported pad (reportOf turnPad 1 40) 2 turnPad (itemNumber .contact) 0 40 ∧ Belongs pad 2 turnPad .contact
      ∧ turnPad.entry.threshold ≤ (40 : Byte).toNat ∧ turnPad.run.contact = .below
      ∧ ∀ action, FilterGives (filtered action pad) 44 .contact action)
    ∧ Reported pad (reportOf turnPad 7 5) 2 turnPad (itemNumber .generic) 0 5 ∧ Belongs pad 2 turnPad .generic
      ∧ Unfiltered pad 44 .generic := by
  refine ⟨⟨pool_nodeLaw, rfl, rfl, by decide +kernel, nofun⟩, ⟨padLost_nodeLaw, rfl, rfl, by decide +kernel⟩,
    ⟨by decide +kernel, rfl, by decide, by decide, 0, by decide +kernel⟩, ⟨rfl, by decide⟩,
    reported _ 2 turnPad 0 5 rfl rfl rfl rfl (by decide) ⟨_, rfl⟩ (by decide +kernel),
    reported _ 2 turnPad 8 5 rfl rfl rfl rfl (by decide) ⟨_, rfl⟩ (by decide +kernel),
    ⟨reported _ 2 turnPad 3 5 rfl rfl rfl rfl (by decide) ⟨_, rfl⟩ (by decide +kernel), ?_⟩,
    ⟨reported _ 2 turnPad 1 40 rfl rfl rfl rfl (by decide) ⟨_, rfl⟩ (by decide +kernel),
      .inr (.inr (.inr (.inr (.inl ⟨rfl, rfl⟩)))), by decide +kernel, rfl, fun action => filtered_gives action _ _ _⟩,
    reported _ 2 turnPad 7 5 rfl rfl rfl rfl (by decide) ⟨_, rfl⟩ (by decide +kernel), .inl rfl,
    unfiltered _ _ _ rfl⟩
  rintro (h | (h | ⟨h | h, _⟩) | ⟨h, _⟩ | ⟨h, _⟩ | ⟨_, h⟩ | ⟨h, _⟩) <;> exact nomatch h

theorem witness_MissesCountTowardAbsent :
    NodeLaw (asked turnPad pool) ∧ PlacesFree 2 (asked turnPad pool) ∧ (asked turnPad pool).nodes[2] = some turnPad
      ∧ (advanceTo 60 (asked turnPad pool)).deck.phase = .awaiting 44 ⟨0, 60, 60⟩ ∧ 60 ≤ 60
      ∧ receive [1, 44, 17, 0, 0, 0] = .checkFails
      ∧ receive (frame ⟨1, 44, kindLamp, []⟩) = .good ⟨1, 44, kindLamp, []⟩
      ∧ kindLamp ≠ kindReport ∧ kindLamp ≠ kindAnswer ∧ kindLamp ≠ kindOrder :=
  ⟨pool_nodeLaw, ⟨rfl, by decide⟩, rfl, rfl, by decide, by decide +kernel, by decide +kernel, by decide⟩

/-- With no station loaded, every entry is passed over, and none is a member of the priority set. -/
theorem bare_passed (j : Fin 64) : bare.nodes[j] = none := by
  revert j
  decide +kernel

theorem witness_DeckGapSendsHead :
    (phased .gap).deck.phase = .gap
    ∧ Serving bare ∧ Chooses 5 bare ∧ RoundBegins bare bare
      ∧ (∀ j, PassedOver bare j) ∧ ∀ j, ¬ PriorityMember (advanceTo 5 bare) j := by
  refine ⟨rfl, ⟨rfl, rfl⟩, .inl rfl, .inl ⟨rfl, rfl, rfl⟩, fun j => .inl (bare_passed j), ?_⟩
  rintro j ⟨⟨n, here, _⟩, _⟩
  have := bare_passed j
  exact absurd (this.symm.trans here) nofun

/-- The pool with the node query slot in a state. -/
def slotted (slot : QuerySlot) (s : State) : State := { s with orders := { s.orders with slot := slot } }

theorem witness_NodeQueryRunsItsCourse :
    let q : Query := ⟨44, [7]⟩
    let line := { slotted (.waiting q none) pool with deck := { pool.deck with queryOnLine := true } }
    let sent := slotted (.waiting q (some ⟨0, 20000, 20000⟩)) pool
    let answering := asked turnPad sent
    let held := slotted (.held q .noResponse ⟨0, 5000000, 5000000⟩) pool
    (line.orders.slot = .waiting q none ∧ line.deck.queryOnLine = true)
    ∧ (advanceTo 0 sent).orders.slot = .waiting q (some ⟨0, 20000, 20000⟩) ∧ 20000 ≤ 20000
    ∧ ((advanceTo 0 answering).orders.slot = .waiting q (some ⟨0, 20000, 20000⟩) ∧ NodeLaw answering
      ∧ answering.nodes[2] = some turnPad ∧ turnPad.run.presence = .present
      ∧ answering.deck.phase = .awaiting 44 ⟨0, 60, 0⟩
      ∧ receive (frame ⟨1, 44, kindAnswer, [8]⟩) = .good ⟨1, 44, kindAnswer, [8]⟩)
    ∧ (advanceTo 0 held).orders.slot = .held q .noResponse ⟨0, 5000000, 5000000⟩ ∧ 5000000 ≤ 5000000 :=
  ⟨⟨rfl, rfl⟩, rfl, by decide, ⟨rfl, pool_nodeLaw, rfl, rfl, rfl, by decide +kernel⟩, rfl, by decide⟩

theorem starter_first (s : State) (here : s.nodes = pool.nodes) : IsFirst s .starter 0 :=
  ⟨⟨starter, by rw [here]; rfl, rfl⟩, fun j _ h => absurd h (Nat.not_lt_zero _)⟩

theorem witness_StartReportStartsHeat :
    let one := asked starter (waiting .armed 1)
    let two := asked starter (waiting .marks 2)
    (SoleItem one (reportOf starter 5 0) 0 starter .start 0 0 false ∧ IsFirst one .starter 0 ∧ one.heat.state = .armed
      ∧ PlacesFree 2 one ∧ one.head.lengths = 1)
    ∧ (SoleItem two (reportOf starter 5 0) 0 starter .start 0 0 false ∧ IsFirst two .starter 0 ∧ two.heat.state = .marks
      ∧ PlacesFree 2 two ∧ two.head.lengths ≠ 1)
    ∧ SoleItem (filtered .copy one) (reportOf starter 5 0) 0 starter .start 0 0 true ∧ PlacesFree 3 (filtered .copy one) :=
  ⟨⟨soleItem _ 0 starter .start 0 rfl rfl rfl rfl rfl ⟨_, rfl⟩ (by decide +kernel), starter_first _ rfl, rfl, ⟨rfl, by decide⟩, rfl⟩,
    ⟨soleItem _ 0 starter .start 0 rfl rfl rfl rfl rfl ⟨_, rfl⟩ (by decide +kernel), starter_first _ rfl, rfl, ⟨rfl, by decide⟩, by decide⟩,
    copiedItem (soleItem _ 0 starter .start 0 rfl rfl rfl rfl rfl ⟨_, rfl⟩ (by decide +kernel)), rfl, by decide⟩

/-- The race time of a RECALL stands at both limits of the window, 0 and 5 s. -/
theorem witness_StarterItemsByHeatState :
    let marks := asked starter (waiting .armed 1)
    let recalled := asked starter (waiting .marks 1)
    let racing := asked starter (started .running 1 1 (swimmer 0) 0)
    let ignored := asked starter (waiting .marks 1)
    (SoleItem marks (reportOf starter 4 0) 0 starter .marks 0 0 false ∧ marks.heat.state = .armed)
    ∧ (SoleItem recalled (reportOf starter 6 0) 0 starter .recall 0 0 false ∧ recalled.heat.state = .marks)
    ∧ (SoleItem racing (reportOf starter 6 0) 0 starter .recall 0 0 false ∧ IsFirst racing .starter 0 ∧ PlacesFree 2 racing
      ∧ racing.heat.state = .running ∧ tickDiff (eventTick 0 0 0) 0 = 0
      ∧ tickDiff (eventTick 5000000 0 0) 0 = 1000000 * (racing.head.recallWindow : Int))
    ∧ SoleItem ignored (reportOf starter 4 0) 0 starter .marks 0 0 false ∧ ignored.heat.state ≠ .armed :=
  ⟨⟨soleItem _ 0 starter .marks 0 rfl rfl rfl rfl rfl ⟨_, rfl⟩ (by decide +kernel), rfl⟩,
    ⟨soleItem _ 0 starter .recall 0 rfl rfl rfl rfl rfl ⟨_, rfl⟩ (by decide +kernel), rfl⟩,
    ⟨soleItem _ 0 starter .recall 0 rfl rfl rfl rfl rfl ⟨_, rfl⟩ (by decide +kernel), starter_first _ rfl, ⟨rfl, by decide⟩, rfl,
      by decide +kernel, by decide +kernel⟩,
    soleItem _ 0 starter .marks 0 rfl rfl rfl rfl rfl ⟨_, rfl⟩ (by decide +kernel), nofun⟩

/-- Values 39 and 40 about the threshold 40; race times at the heat limit of 60 s and just above it, and about the
lockout of 10 s. -/
theorem witness_TouchIsTested :
    let racing := asked turnPad (started .running 2 1 (swimmer 0) 0)
    let wrong := asked startPad (started .running 2 1 (swimmer 0) 0)
    let idle := asked turnPad pool
    (SoleItem idle (reportOf turnPad 1 39) 2 turnPad .contact 0 39 false ∧ ¬ turnPad.entry.threshold ≤ (39 : Byte).toNat)
    ∧ (SoleItem idle (reportOf turnPad 1 40) 2 turnPad .contact 0 40 false ∧ turnPad.entry.threshold ≤ (40 : Byte).toNat
      ∧ turnPad.run.contact = .below ∧ idle.lanes[0].state ≠ .swimming)
    ∧ (SoleItem racing (reportOf turnPad 1 40) 2 turnPad .contact 0 40 false ∧ turnPad.entry.kind = .pad
      ∧ turnPad.entry.lane = some 0 ∧ turnPad.entry.poolEnd = some .turn ∧ PlacesFree 1 racing
      ∧ racing.heat.startTick = some 0 ∧ racing.lanes[0].state = .swimming ∧ racing.head.minLength = 10000
      ∧ 1000000 * (racing.head.heatLimit : Int) < tickDiff (eventTick 60000001 0 0) 0
      ∧ tickDiff (eventTick 9999999 0 0) 0 < 0 + 1000 * (racing.head.minLength : Int))
    ∧ SoleItem wrong (reportOf startPad 1 40) 3 startPad .contact 0 40 false ∧ startPad.entry.poolEnd = some .start
      ∧ 0 + 1000 * (wrong.head.minLength : Int) ≤ tickDiff (eventTick 10000000 0 0) 0
      ∧ tickDiff (eventTick 19999999 0 0) 0 < 0 + 2 * (1000 * (wrong.head.minLength : Int)) :=
  ⟨⟨soleItem _ 2 turnPad .contact 39 rfl rfl rfl rfl rfl ⟨_, rfl⟩ (by decide +kernel), by decide +kernel⟩,
    ⟨soleItem _ 2 turnPad .contact 40 rfl rfl rfl rfl rfl ⟨_, rfl⟩ (by decide +kernel), by decide +kernel, rfl, by decide +kernel⟩,
    ⟨soleItem _ 2 turnPad .contact 40 rfl rfl rfl rfl rfl ⟨_, rfl⟩ (by decide +kernel), rfl, rfl, rfl, ⟨rfl, by decide⟩, rfl, by decide +kernel,
      rfl, by decide +kernel, by decide +kernel⟩,
    soleItem _ 3 startPad .contact 40 rfl rfl rfl rfl rfl ⟨_, rfl⟩ (by decide +kernel), rfl, by decide +kernel, by decide +kernel⟩

/-- Touches at 10 s, and at the far end at 20 s with one length missed; at an exchange length of a relay at 22 s, with a
release held or an earlier exchange awaiting its own; and at the far end at 32 s, with the exchange length missed. -/
theorem witness_TouchAppendsSplit :
    let near := asked turnPad (started .running 2 1 (swimmer 0) 0)
    let far := asked startPad (started .running 4 1 (swimmer 0) 0)
    let relay (n : Node) := asked n (started .running 8 4
      { swimmer 1 with pendingRelease := some ⟨0, false⟩, awaitingRelease := some ⟨1, 0⟩ } 0)
    let item (s : State) (i : Fin 64) (n : Node) : Prop :=
      SoleItem s (reportOf n 1 40) i n .contact 0 40 false ∧ n.entry.threshold ≤ (40 : Byte).toNat
        ∧ n.run.contact = .below ∧ PlacesFree 3 s ∧ s.heat.startTick = some 0 ∧ s.lanes[0].state = .swimming
    (item near 2 turnPad ∧ (near.lanes[0].lengthCount + 1) % 2 = 1
      ∧ near.lanes[0].lengthCount + 1 < near.head.lengths
      ∧ near.lanes[0].lastTouch.getD 0 + 1000 * (near.head.minLength : Int) ≤ tickDiff (eventTick 10000000 0 0) 0)
    ∧ (item far 3 startPad ∧ far.lanes[0].lengthCount + 2 < far.head.lengths
      ∧ far.lanes[0].lastTouch.getD 0 + 2 * (1000 * (far.head.minLength : Int)) ≤ tickDiff (eventTick 20000000 0 0) 0)
    ∧ (item (relay startPad) 3 startPad ∧ ((relay startPad).lanes[0].lengthCount + 1) % 2 ≠ 1
      ∧ (relay startPad).lanes[0].lengthCount + 1 < (relay startPad).head.lengths
      ∧ (relay startPad).lanes[0].lastTouch.getD 0 + 1000 * ((relay startPad).head.minLength : Int)
          ≤ tickDiff (eventTick 22000000 0 0) 0)
    ∧ item (relay turnPad) 2 turnPad ∧ (relay turnPad).lanes[0].lengthCount + 2 < (relay turnPad).head.lengths
      ∧ (relay turnPad).lanes[0].lastTouch.getD 0 + 2 * (1000 * ((relay turnPad).head.minLength : Int))
          ≤ tickDiff (eventTick 32000000 0 0) 0 :=
  ⟨⟨⟨soleItem _ 2 turnPad .contact 40 rfl rfl rfl rfl rfl ⟨_, rfl⟩ (by decide +kernel), by decide +kernel, rfl,
      ⟨rfl, by decide⟩, rfl, by decide +kernel⟩, by decide +kernel, by decide +kernel, by decide +kernel⟩,
    ⟨⟨soleItem _ 3 startPad .contact 40 rfl rfl rfl rfl rfl ⟨_, rfl⟩ (by decide +kernel), by decide +kernel, rfl,
      ⟨rfl, by decide⟩, rfl, by decide +kernel⟩, by decide +kernel, by decide +kernel⟩,
    ⟨⟨soleItem _ 3 startPad .contact 40 rfl rfl rfl rfl rfl ⟨_, rfl⟩ (by decide +kernel), by decide +kernel, rfl,
      ⟨rfl, by decide⟩, rfl, by decide +kernel⟩, by decide +kernel, by decide +kernel, by decide +kernel⟩,
    ⟨soleItem _ 2 turnPad .contact 40 rfl rfl rfl rfl rfl ⟨_, rfl⟩ (by decide +kernel), by decide +kernel, rfl,
      ⟨rfl, by decide⟩, rfl, by decide +kernel⟩, by decide +kernel, by decide +kernel⟩

/-- Touches at 10 s and at the heat limit; and at 20 s, with the first of two lengths missed. -/
theorem witness_FinishPlacesLane :
    let s := asked turnPad (started .running 1 1 (swimmer 0) 0)
    let far := asked startPad (started .running 2 1 (swimmer 0) 0)
    SoleItem s (reportOf turnPad 1 40) 2 turnPad .contact 0 40 false ∧ turnPad.entry.kind = .pad
      ∧ turnPad.entry.lane = some 0 ∧ turnPad.entry.poolEnd = some .turn
      ∧ turnPad.entry.threshold ≤ (40 : Byte).toNat ∧ turnPad.run.contact = .below ∧ s.heat.startTick = some 0
      ∧ s.heat.state = .running ∧ s.lanes[0].state = .swimming ∧ s.lanes[0].lengthCount + 1 = s.head.lengths
      ∧ s.head.lengths % 2 = 1 ∧ tickDiff (eventTick 60000000 0 0) 0 ≤ 1000000 * (s.head.heatLimit : Int)
      ∧ s.lanes[0].lastTouch.getD 0 + 1000 * (s.head.minLength : Int) ≤ tickDiff (eventTick 10000000 0 0) 0
      ∧ PlacesFree 14 s
      ∧ SoleItem far (reportOf startPad 1 40) 3 startPad .contact 0 40 false ∧ startPad.entry.poolEnd = some .start
      ∧ far.head.lengths % 2 ≠ 1 ∧ far.lanes[0].lengthCount + 2 = far.head.lengths
      ∧ far.lanes[0].lastTouch.getD 0 + 2 * (1000 * (far.head.minLength : Int)) ≤ tickDiff (eventTick 20000000 0 0) 0 :=
  ⟨soleItem _ 2 turnPad .contact 40 rfl rfl rfl rfl rfl ⟨_, rfl⟩ (by decide +kernel), rfl, rfl, rfl, by decide +kernel, rfl, rfl, rfl,
    by decide +kernel, by decide +kernel, by decide +kernel, by decide +kernel, by decide +kernel, ⟨rfl, by decide⟩,
    soleItem _ 3 startPad .contact 40 rfl rfl rfl rfl rfl ⟨_, rfl⟩ (by decide +kernel), rfl, by decide +kernel,
    by decide +kernel, by decide +kernel⟩

theorem witness_ReleaseIsJudged :
    let armed := asked block (waiting .armed 1)
    let marks := asked block (waiting .marks 1)
    let held := asked block { waiting .marks 1 with
      lanes := pool.lanes.set 0 { vacantRecord with state := .waiting, marksRelease := some ⟨0, false⟩ } }
    let racing := asked block (started .running 4 1 (swimmer 0) 0)
    let reacted := asked block (started .running 4 1 { swimmer 0 with reaction := some 0 } 0)
    let swum := asked block (started .running 4 1 (swimmer 1) 0)
    (SoleItem armed (reportOf block 2 0) 1 block .release 0 0 false ∧ block.entry.kind = .block ∧ block.entry.lane = some 0
      ∧ PlacesFree 2 armed ∧ armed.heat.state = .armed)
    ∧ (SoleItem marks (reportOf block 2 0) 1 block .release 0 0 false ∧ marks.heat.state = .marks
      ∧ marks.lanes[0].state = .waiting ∧ marks.lanes[0].marksRelease = none)
    ∧ (SoleItem held (reportOf block 2 0) 1 block .release 0 0 false ∧ held.lanes[0].state = .waiting
      ∧ held.lanes[0].marksRelease ≠ none)
    ∧ (SoleItem (asked block pool) (reportOf block 2 0) 1 block .release 0 0 false ∧ pool.heat.state = .idle)
    ∧ (SoleItem racing (reportOf block 2 0) 1 block .release 0 0 false ∧ racing.heat.startTick = some 0
      ∧ racing.lanes[0].state = .swimming ∧ racing.lanes[0].lengthCount = 0 ∧ racing.lanes[0].reaction = none
      ∧ 0 ≤ tickDiff (eventTick 0 0 0) 0 ∧ tickDiff (eventTick 4294967295 0 0) 0 < 0)
    ∧ (SoleItem reacted (reportOf block 2 0) 1 block .release 0 0 false ∧ reacted.lanes[0].reaction ≠ none)
    ∧ SoleItem swum (reportOf block 2 0) 1 block .release 0 0 false ∧ 1 ≤ swum.lanes[0].lengthCount ∧ swum.head.legs ≤ 1 :=
  ⟨⟨soleItem _ 1 block .release 0 rfl rfl rfl rfl rfl ⟨_, rfl⟩ (by decide +kernel), rfl, rfl, ⟨rfl, by decide⟩, rfl⟩,
    ⟨soleItem _ 1 block .release 0 rfl rfl rfl rfl rfl ⟨_, rfl⟩ (by decide +kernel), rfl, by decide +kernel, by decide +kernel⟩,
    ⟨soleItem _ 1 block .release 0 rfl rfl rfl rfl rfl ⟨_, rfl⟩ (by decide +kernel), by decide +kernel, by decide +kernel⟩,
    ⟨soleItem _ 1 block .release 0 rfl rfl rfl rfl rfl ⟨_, rfl⟩ (by decide +kernel), rfl⟩,
    ⟨soleItem _ 1 block .release 0 rfl rfl rfl rfl rfl ⟨_, rfl⟩ (by decide +kernel), rfl, by decide +kernel, by decide +kernel,
      by decide +kernel, by decide +kernel, by decide +kernel⟩,
    ⟨soleItem _ 1 block .release 0 rfl rfl rfl rfl rfl ⟨_, rfl⟩ (by decide +kernel), by decide +kernel⟩,
    soleItem _ 1 block .release 0 rfl rfl rfl rfl rfl ⟨_, rfl⟩ (by decide +kernel), by decide +kernel, by decide +kernel⟩

/-- Presses at 9.999999 s, too early, and at 10 s. -/
theorem witness_PressIsJudged :
    let open' := asked button (started .running 1 1 (swimmer 0) 0)
    let held := asked button (started .running 1 1 { swimmer 0 with samples := [⟨1, 10000000⟩] } 0)
    (SoleItem open' (reportOf button 3 0) 4 button .press 0 0 false ∧ button.entry.kind = .button
      ∧ button.entry.lane = some 0 ∧ button.entry.poolEnd = some .turn ∧ button.entry.position = some 1
      ∧ open'.heat.startTick = some 0 ∧ PlacesFree 1 open'
      ∧ tickDiff (eventTick 9999999 0 0) 0 < 1000 * (open'.head.minLength : Int))
    ∧ (open'.heat.state = .running ∧ open'.lanes[0].state = .swimming ∧ open'.head.lengths % 2 = 1
      ∧ ¬ tickDiff (eventTick 10000000 0 0) 0 < 1000 * (open'.head.minLength : Int)
      ∧ ¬ 1000000 * (open'.head.heatLimit : Int) < tickDiff (eventTick 10000000 0 0) 0
      ∧ ¬ open'.lanes[0].lengthCount + 1 < open'.head.lengths ∧ open'.lanes[0].samples = [])
    ∧ (SoleItem held (reportOf button 3 0) 4 button .press 0 0 false ∧ held.lanes[0].samples = [⟨1, 10000000⟩])
    ∧ SoleItem (asked button pool) (reportOf button 3 0) 4 button .press 0 0 false ∧ pool.heat.startTick = none :=
  ⟨⟨soleItem _ 4 button .press 0 rfl rfl rfl rfl rfl ⟨_, rfl⟩ (by decide +kernel), rfl, rfl, rfl, rfl, rfl, ⟨rfl, by decide⟩,
      by decide +kernel⟩,
    ⟨rfl, by decide +kernel, by decide +kernel, by decide +kernel, by decide +kernel, by decide +kernel,
      by decide +kernel⟩,
    ⟨soleItem _ 4 button .press 0 rfl rfl rfl rfl rfl ⟨_, rfl⟩ (by decide +kernel), by decide +kernel⟩,
    soleItem _ 4 button .press 0 rfl rfl rfl rfl rfl ⟨_, rfl⟩ (by decide +kernel), rfl⟩

/-- Four legs of two lengths, one length swum; a touch at 22 s, the lockout's end. -/
theorem witness_ExchangeOrderIndependent :
    let s := started .running 8 4 (swimmer 1) 0
    let leg := s.head.lengths / s.head.legs
    let n := s.lanes[0].lengthCount + 1
    s.heat.state = .running ∧ s.heat.startTick = some 0 ∧ s.lanes[0].state = .swimming ∧ 1 < s.head.legs
      ∧ 1 ≤ s.lanes[0].lengthCount ∧ n % 2 = 0 ∧ n % leg = 0 ∧ n < s.head.lengths
      ∧ s.lanes[0].exchanges.length + 1 < s.head.legs ∧ s.lanes[0].pendingRelease = none
      ∧ s.lanes[0].awaitingRelease = none ∧ tickDiff 22000000 0 ≤ 1000000 * (s.head.heatLimit : Int)
      ∧ s.lanes[0].lastTouch.getD 0 + 1000 * (s.head.minLength : Int) ≤ tickDiff 22000000 0
      ∧ tickDiff 21969999 22000000 < -(1000 * (s.head.exchangeMargin : Int)) := by
  decide +kernel

theorem witness_BackupFusionRule :
    let low : Sample := ⟨2, 10⟩
    let mid : Sample := ⟨3, 10⟩
    let high : Sample := ⟨1, 30⟩
    [high, low, mid].Perm [low, mid, high] ∧ low.time ≤ mid.time ∧ mid.time ≤ high.time
      ∧ [high, low, mid].length ≤ 3 ∧ backupTime [high, low, mid] = some 10 := by
  decide

/-- A window that has just run out, the lane behind an open exchange. -/
theorem witness_ButtonWindowClosesHeat :
    let s := { started .closing 1 1 (swimmer 0) 7 with clock := ⟨7, none, none, none, some ⟨0, 7, 7⟩, none⟩ }
    s.heat.state = .closing ∧ PlacesFree 13 s ∧ (advanceTo 7 s).clock.buttonWindow = some ⟨0, 7, 7⟩ ∧ 7 ≤ 7 :=
  ⟨rfl, ⟨rfl, by decide⟩, rfl, by decide⟩

theorem witness_BoardInsertionRule :
    let clock : Telegram := ⟨127, 1, kindClock, []⟩
    let split : Telegram := ⟨127, 1, kindSplit, [3]⟩
    let result : Telegram := ⟨127, 1, kindResult, []⟩
    let event : Telegram := ⟨127, 1, kindEvent, [44]⟩
    event.kind ≠ kindSplit
      ∧ ¬ 32 ≤ (queued [] pool).board.queue.length + (if (queued [] pool).board.reserved then 1 else 0)
      ∧ 32 ≤ (queued (fullQueue clock) pool).board.queue.length
      ∧ fullQueue clock = List.replicate 31 result ++ clock :: [] ∧ (∀ q ∈ List.replicate 31 result, q.kind ≠ kindClock)
      ∧ (∀ q ∈ fullQueue split, q.kind ≠ kindClock) ∧ fullQueue split = List.replicate 31 result ++ split :: []
      ∧ (∀ q ∈ List.replicate 31 result, q.kind ≠ kindSplit)
      ∧ 32 ≤ (fullQueue result).length ∧ ∀ q ∈ fullQueue result, q.kind ≠ kindClock ∧ q.kind ≠ kindSplit := by
  decide +kernel

theorem witness_BoardLineMovesTelegrams :
    let event : Telegram := ⟨127, 1, kindEvent, []⟩
    let busy := { queued [event] pool with board := ⟨[event], false, none, some ⟨0, 100, 99⟩⟩ }
    (∀ b, (advanceTo 0 (queued [event] pool)).board.busy = some b → b.span ≤ b.elapsed)
    ∧ ((advanceTo 0 busy).board.busy = some ⟨0, 100, 99⟩ ∧ ¬ 100 ≤ 99)
    ∧ (44 : Byte) ≠ pool.settings.station ∧ PlacesFree 1 pool ∧ pool.nodes[2] = some turnPad
    ∧ 128 ≤ (128 : Byte).toNat ∧ ¬ 128 ≤ (127 : Byte).toNat
    ∧ (List.replicate 4 (⟨.passThrough, ⟨44, 9, 200, []⟩⟩ : DeckEntry)).length = 4 :=
  ⟨nofun, ⟨rfl, by decide⟩, by decide, ⟨rfl, by decide⟩, rfl, by decide, by decide, by decide⟩

theorem witness_TallyEventsCount : tallied.tally.frozen = false ∧ CountsOn tallied.tally.counters[0] .badCheck none none
    ∧ ¬ CountsOn pool.tally.counters[0] .badCheck none none ∧ { tallied.tally with frozen := true }.frozen = true
    ∧ PlacesFree 1 tallied :=
  ⟨rfl, ⟨rfl, rfl, by decide, rfl⟩, (fun h => nomatch h.1), rfl, ⟨rfl, by decide⟩⟩

theorem witness_BoardFrameSpellsCommand :
    isStation 1 = true ∧ WellFormed (.arm 7 9 5 []) = true ∧ commandTick (.arm 7 9 5 []) = some 7
      ∧ boardFrame 1 (.arm 7 9 5 []) = some [1, 9, 32, 4, 17, 5, 0, 0, 103, 204]
      ∧ WellFormed (.passThrough 7 44 9 200 [1]) = true ∧ (44 : Byte) ≠ 1
      ∧ boardFrame 1 (.passThrough 7 44 9 200 [1]) = some [44, 9, 200, 1, 1, 205, 162] := by
  decide +kernel

/-- The bytes of an ORDER of the panel (table 1-5). -/
def panelOrderOf (code : Byte) (body : List Byte) : List Byte := frame ⟨1, 80, kindOrder, [code, 3, 0, 0] ++ body⟩

theorem panel_alone : ∀ j : Fin 64, j < 5 → (match pool.nodes[j] with
    | some n => n.entry.kind != .panel
    | none => true) = true := by decide +kernel

theorem panel_first (s : State) (here : s.nodes = pool.nodes) : IsFirst s .panel 5 := by
  refine ⟨⟨panel, by rw [here]; rfl, rfl⟩, fun j m before at' kind => ?_⟩
  rw [here] at at'
  have := panel_alone j before
  rw [at'] at this
  exact absurd kind (by simpa using this)

/-- The PRESENT panel of the pool, polled, sends an ORDER. -/
theorem panelSends (s : State) (code : Byte) (body : List Byte) (here : s.nodes = pool.nodes)
    (settings : s.settings.station = 1) (queue : s.deck.queue = [])
    (awaited : s.deck.phase = .awaiting 80 (freshTimer 0 60))
    (received : receive (panelOrderOf code body) = .good ⟨1, 80, kindOrder, [code, 3, 0, 0] ++ body⟩) :
    PanelSends s (panelOrderOf code body) 5 panel code 3 body where
  node := by rw [here]; rfl
  first := panel_first s here
  present := rfl
  awaited := ⟨_, awaited⟩
  received := ⟨0, 0, by rw [settings]; exact received⟩
  unanswered := by rw [queue]; exact fun _ h => nomatch h
  table := by unfold NodeLaw; rw [here, settings]; exact pool_nodeLaw

theorem witness_EarlyTestsAnswerOrders :
    let holding := { pool with loader := { pool.loader with hold := true } }
    let loading := { pool with loader := State.reset.loader }
    let asks (s : State) (code : Byte) (body : List Byte) : Prop :=
      PanelSends (asked panel s) (panelOrderOf code body) 5 panel code 3 body
    (PlaceMade State.reset [] ∧ State.reset.loader.load = .loading
      ∧ PlaceMade holding [] ∧ holding.loader.hold = true ∧ OrderCode.stat ≠ .relh
      ∧ PlaceMade pool [] ∧ pool.loader.load = .done ∧ pool.loader.hold = false ∧ lengthSuits .tload 3 = false
      ∧ lengthSuits .tload 45 = false ∧ orderOfNumber (11 : Byte).toNat = none ∧ Serving pool ∧ ¬ Serving State.reset)
    ∧ asks loading 1 [] ∧ loading.loader.load = .loading ∧ asks holding 1 [] ∧ asks pool 11 [] ∧ asks pool 17 [0]
      ∧ lengthSuits .arm 1 = false ∧ asks holding 9 [] ∧ lengthSuits .relh 0 = true ∧ asks pool 8 [44]
      ∧ lengthSuits .nqry 1 = true :=
  ⟨⟨rfl, rfl, rfl, rfl, nofun, rfl, rfl, rfl, rfl, rfl, rfl, ⟨rfl, rfl⟩, fun h => nomatch h.1⟩,
    panelSends _ 1 [] rfl rfl rfl rfl (by decide +kernel), rfl, panelSends _ 1 [] rfl rfl rfl rfl (by decide +kernel),
    panelSends _ 11 [] rfl rfl rfl rfl (by decide +kernel), panelSends _ 17 [0] rfl rfl rfl rfl (by decide +kernel), rfl,
    panelSends _ 9 [] rfl rfl rfl rfl (by decide +kernel), rfl, panelSends _ 8 [44] rfl rfl rfl rfl (by decide +kernel),
    rfl⟩

theorem witness_OrderWithoutPlaceIsNotTaken :
    let s := queued (fullQueue ⟨127, 1, kindEvent, []⟩) pool
    makeRoom s.board.reserved s.board.queue = none ∧ (17 : Byte) ≠ 26 ∧ ([0] : List Byte) ≠ [] := by
  decide +kernel

theorem witness_NonOwnerRegistersClaim :
    let s := ownedBy .panel pool
    (Serving s ∧ s.orders.owner = .panel ∧ needsChannel .arm = true ∧ lengthSuits .arm 0 = true ∧ PlaceMade s []
      ∧ s.orders.claim = none)
    ∧ (PanelSends (asked panel pool) (panelOrderOf 17 []) 5 panel (byteOf (orderNumber .arm)) 3 []
      ∧ Serving (asked panel pool) ∧ pool.orders.owner = .console)
    ∧ PanelSends (asked panel s) (panelOrderOf 18 []) 5 panel (byteOf (orderNumber .endh)) 3 []
      ∧ needsChannel .endh = true ∧ lengthSuits .endh 0 = true ∧ s.heat.state = .idle :=
  ⟨⟨⟨rfl, rfl⟩, rfl, rfl, rfl, rfl, rfl⟩,
    ⟨panelSends _ 17 [] rfl rfl rfl rfl (by decide +kernel), ⟨rfl, rfl⟩, rfl⟩,
    panelSends _ 18 [] rfl rfl rfl rfl (by decide +kernel), rfl, rfl, rfl⟩

theorem witness_StatReportsStatus : Serving pool ∧ PlaceMade pool [] ∧ pool.results.order.length ≤ 10 :=
  ⟨⟨rfl, rfl⟩, rfl, by decide⟩

theorem witness_LaneReportsRecord :
    let s := started .running 4 1 (swimmer 2) 0
    Serving s ∧ PlaceMade s [] ∧ 9 < (10 : Byte).toNat ∧ (9 : Byte) = byteOf (9 : Lane).val ∧ (0 : Byte) = byteOf (0 : Lane).val
      ∧ s.lanes[0].lengthCount < (3 : Byte).toNat ∧ 1 ≤ (2 : Byte).toNat ∧ (2 : Byte).toNat ≤ s.lanes[0].lengthCount
      ∧ s.lanes[0].splits.length = s.lanes[0].lengthCount :=
  ⟨⟨rfl, rfl⟩, rfl, by decide, by decide, by decide, by decide +kernel, by decide, by decide +kernel, by decide +kernel⟩

theorem witness_TreadReportsEntries : Serving pool ∧ PlaceMade pool [] ∧ tableOf (7 : Byte).toNat = none
    ∧ (3 : Byte) = byteOf (tableNumber .bank) ∧ tableSize .bank ≤ (11 : Byte).toNat ∧ 1 < (2 : Byte).toNat
    ∧ (10 : Byte).toNat < tableSize .bank ∧ (1 : Byte).toNat ≤ 1 :=
  ⟨⟨rfl, rfl⟩, rfl, by decide, by decide, by decide, by decide, by decide, by decide⟩

theorem witness_TreadTallyReportsCounters : Serving pool ∧ PlaceMade pool [] ∧ 7 < (8 : Byte).toNat
    ∧ (7 : Byte).toNat ≤ 7 :=
  ⟨⟨rfl, rfl⟩, rfl, by decide, by decide⟩

theorem witness_MailboxesHoldTheirBytes :
    let toPanel := { pool with orders := { pool.orders with notices := pool.orders.notices.set 6 ⟨false, true, .panel⟩ } }
    let toBoard := { pool with settings := { pool.settings with toConsole := pool.settings.toConsole.set 3 true } }
    let data : Vector Byte 8 := Vector.replicate 8 7
    (Serving pool ∧ PlaceMade pool [] ∧ 3 < (4 : Byte).toNat ∧ (3 : Byte) = byteOf (3 : Fin 4).val
      ∧ (pool.notice .mailbox).direction ≠ .panel
      ∧ Serving toPanel ∧ PlaceMade toPanel [] ∧ toPanel.settings.toConsole[0] = false
      ∧ (toPanel.notice .mailbox).direction = .panel)
    ∧ PanelSends (asked panel toBoard) (panelOrderOf 5 [3]) 5 panel 5 3 [byteOf (3 : Fin 4).val]
    ∧ PanelSends (asked panel toBoard) (panelOrderOf 6 (3 :: data.toList)) 5 panel 6 3
        (byteOf (3 : Fin 4).val :: data.toList)
      ∧ PlacesFree 1 (asked panel toBoard) ∧ toBoard.settings.toConsole[3] = true
      ∧ (toBoard.notice .mailbox).direction = .board ∧ pool.settings.toConsole[3] ≠ true :=
  ⟨⟨⟨rfl, rfl⟩, rfl, by decide, by decide, by decide, ⟨rfl, rfl⟩, rfl, rfl, by decide +kernel⟩,
    panelSends _ 5 [3] rfl rfl rfl rfl (by decide +kernel),
    panelSends _ 6 (3 :: (Vector.replicate 8 (7 : Byte)).toList) rfl rfl rfl rfl (by decide +kernel),
    ⟨rfl, by decide⟩, by decide +kernel, by decide +kernel, by decide +kernel⟩

theorem witness_NclrClearsBoardNotices :
    let s := setStatus .heatChange true padLost
    Serving s ∧ PlaceMade s [] ∧ ((0 : Byte) ++ (32 : Byte)).getLsbD 5 = true ∧ s.orders.notices[5].direction = .board
      ∧ s.nodes[2] = some lostPad :=
  ⟨⟨rfl, rfl⟩, rfl, by decide, by decide +kernel, rfl⟩

theorem witness_NodeQueryOrder :
    let q : Query := ⟨44, [7]⟩
    Serving pool ∧ PlaceMade pool [] ∧ ([7] : List Byte).length ≤ 43 ∧ NodeLaw pool ∧ NodeLaw padLost
      ∧ holdsNone pool 46 = true ∧ pool.nodes[2] = some turnPad ∧ turnPad.entry.station = 44
      ∧ turnPad.run.presence = .present ∧ pool.orders.slot = .free
      ∧ padLost.nodes[2] = some lostPad ∧ lostPad.run.presence ≠ .present
      ∧ (slotted (.waiting q none) pool).orders.slot = .waiting q none
      ∧ (slotted (.held q (.answer [8]) ⟨0, 9, 0⟩) pool).orders.slot = .held q (.answer [8]) ⟨0, 9, 0⟩
      ∧ (⟨44, []⟩ : Query) ≠ q :=
  ⟨⟨rfl, rfl⟩, rfl, by decide, pool_nodeLaw, padLost_nodeLaw, by decide +kernel, rfl, rfl, rfl, rfl, rfl, nofun, rfl, rfl,
    by decide⟩

/-- The channel in each of the cases of CREL. -/
theorem witness_RelhAndCrelGiveWay :
    let claimedBy (owner : Side) := { ownedBy owner pool with
      orders := { pool.orders with owner := owner, claim := some ⟨0, 9, 0⟩ } }
    let chained := { pool with orders := { pool.orders with chain := some ⟨.bank, 0, 2, ⟨0, 9, 0⟩⟩ } }
    (pool.loader.load = .done ∧ PlaceMade pool [])
    ∧ (Serving chained ∧ PlaceMade chained [] ∧ chained.orders.owner = .console ∧ chained.orders.chain ≠ none)
    ∧ (Serving (claimedBy .console) ∧ PlaceMade (claimedBy .console) [] ∧ (claimedBy .console).orders.chain = none
      ∧ (claimedBy .console).orders.claim ≠ none)
    ∧ (Serving pool ∧ pool.orders.owner = .console ∧ pool.orders.claim = none)
    ∧ (Serving (claimedBy .panel) ∧ PlaceMade (claimedBy .panel) [] ∧ (claimedBy .panel).orders.claim ≠ none)
    ∧ Serving (ownedBy .panel pool) ∧ (ownedBy .panel pool).orders.claim = none :=
  ⟨⟨rfl, rfl⟩, ⟨⟨rfl, rfl⟩, rfl, rfl, nofun⟩, ⟨⟨rfl, rfl⟩, rfl, rfl, nofun⟩, ⟨⟨rfl, rfl⟩, rfl, rfl⟩,
    ⟨⟨rfl, rfl⟩, rfl, nofun⟩, ⟨rfl, rfl⟩, rfl⟩

theorem witness_TloadRefusals : ConsoleServed pool ∧ PlaceMade pool [] ∧ (List.replicate 40 (0 : Byte)).length ≤ 40
    ∧ (2 : Byte) ≠ 0 ∧ (2 : Byte) ≠ 1 ∧ pool.orders.chain = none ∧ tableOf (7 : Byte).toNat = none
    ∧ (1 : Byte) = byteOf (tableNumber .nodes) ∧ tableSize .nodes < (60 : Byte).toNat + (5 : Byte).toNat
    ∧ (60 : Byte).toNat + (4 : Byte).toNat ≤ tableSize .nodes ∧ (started .running 1 1 (swimmer 0) 0).heat.state = .running
    ∧ pool.banks.pendingSwap = false ∧ (List.replicate 9 (0 : Byte)).length % 10 ≠ 0 :=
  ⟨pool_served, pool_place, by decide, by decide, by decide, rfl, by decide, by decide, by decide, by decide, rfl, rfl,
    by decide⟩

theorem witness_LoadChainWritesNotices :
    let open' := { pool with orders := { pool.orders with chain := some ⟨.notices, 10, 2, ⟨0, 100000, 0⟩⟩ } }
    ConsoleServed pool ∧ PlaceMade pool [] ∧ ([1, 2] : List Byte).length ≤ 40 ∧ pool.orders.chain = none
      ∧ (10 : Byte).toNat + (2 : Byte).toNat ≤ 12 ∧ ConsoleServed open' ∧ PlaceMade open' []
      ∧ open'.orders.chain = some ⟨.notices, 10, 2, ⟨0, 100000, 0⟩⟩ ∧ 10 + 2 ≤ 12 :=
  ⟨pool_served, pool_place, by decide, rfl, by decide, ⟨⟨rfl, rfl⟩, rfl⟩, rfl, rfl, by decide⟩

/-- A station that is free, one that another entry holds, and the two ends of a button's positions. -/
theorem witness_NodeWriteRule :
    let accepted : List Byte := [1, 126, 3, 9, 1, 3, 255, 255, 0, 255]
    let taken : List Byte := [1, 44, 5, 0, 0, 0, 0, 0, 0, 0]
    ConsoleServed pool ∧ PlaceMade pool [] ∧ pool.orders.chain = none ∧ pool.heat.state = .idle
      ∧ accepted.length = 10 ∧ byteAt accepted 0 ≠ 0 ∧ NodeAccepted pool 5 accepted
      ∧ taken.length = 10 ∧ ¬ NodeAccepted pool 5 taken ∧ (List.replicate 10 (0 : Byte)).length = 10
      ∧ byteAt (List.replicate 10 0) 0 = 0 := by
  refine ⟨pool_served, pool_place, rfl, rfl, rfl, by decide, ⟨by decide, by decide, by decide, ?_, by decide, by decide,
    by decide, by decide⟩, rfl, fun h => ?_, rfl, rfl⟩
  · intro j m _ here same
    have free : ∀ j : Fin 64, (match pool.nodes[j] with
      | some n => n.entry.station != 126
      | none => true) = true := by decide +kernel
    have := free j
    rw [here] at this
    simp only [bne_iff_ne] at this
    exact this same
  · exact h.2.2.2.1 2 turnPad (by decide) rfl rfl

theorem witness_FilterAndBankWrites :
    let head : List Byte := [1, 39, 15, 99, 4, 1, 0, 0, 0, 0, 0, 0, 0, 0, 0, 0, 0, 0, 0, 0, 0]
    ConsoleServed pool ∧ PlaceMade pool [] ∧ pool.orders.chain = none ∧ pool.banks.pendingSwap = false
      ∧ (List.replicate 5 (0 : Byte)).length = 5 ∧ 3 < (4 : Byte).toNat ∧ (3 : Byte).toNat = actionCode .drop
      ∧ head.length = 21 ∧ byteAt head 0 ≠ 0 ∧ 256 * (byteAt head 1).toNat + (byteAt head 2).toNat = 9999
      ∧ (byteAt head 3).toNat = 99 ∧ (List.replicate 4 (0 : Byte)).length = 4
      ∧ pool.heat.state = .idle ∧ 2 < (3 : Byte).toNat ∧ ((2 : Byte) = 2 ∧ Force.off = .off) :=
  ⟨pool_served, pool_place, rfl, rfl, rfl, by decide, by decide, rfl, by decide, by decide, by decide, rfl, rfl, by decide,
    rfl, rfl⟩

theorem witness_SettingsWriteRule : ConsoleServed pool ∧ PlaceMade pool [] ∧ pool.orders.chain = none
    ∧ isStation 126 = true ∧ holdsNone pool 126 = true ∧ isStation 127 = false ∧ pool.nodes[2] = some turnPad
    ∧ turnPad.entry.station = 44 ∧ (1 : Byte).toNat ≤ 1 ∧ 1 < (2 : Byte).toNat ∧ (6 : Byte).toNat ≤ 6 :=
  ⟨pool_served, pool_place, rfl, by decide, by decide +kernel, by decide, rfl, rfl, by decide, by decide, by decide⟩

/-- The pool with a standby bank. -/
def standing (b : Bank) (s : State) : State := { s with banks := { s.banks with b := b } }

/-- A bank whose limits fit or fail check 7, and one with no occupied lane. -/
theorem witness_ArmValidation :
    let h (lengths legs : Nat) : HeatHead := head lengths legs
    ConsoleServed pool ∧ PlaceMade pool [] ∧ pool.heat.state ≠ .marks ∧ bankChainOpen pool = false
      ∧ pool.banks.pendingSwap = false ∧ pool.standbyBank.head = none
      ∧ (standing (bank 6 4) pool).standbyBank.head = some (h 6 4)
      ∧ ¬ (1 ≤ (h 61 1).lengths ∧ (h 61 1).lengths ≤ 60) ∧ ¬ ((h 6 3).legs = 1 ∨ (h 6 3).legs = 2 ∨ (h 6 3).legs = 4)
      ∧ (h 6 4).lengths % (h 6 4).legs ≠ 0 ∧ (h 6 2).lengths = (2 * 1 + 1) * (h 6 2).legs
      ∧ (standing (bank 6 1) pool).standbyBank.lanes[0].occupied = true
      ∧ (h 6 1).lengths * (1000 * (h 6 1).minLength) ≤ 1000000 * (h 6 1).heatLimit
      ∧ ¬ (h 7 1).lengths * (1000 * (h 7 1).minLength) ≤ 1000000 * (h 7 1).heatLimit :=
  ⟨pool_served, pool_place, nofun, rfl, rfl, rfl, rfl, by decide, by decide, by decide, by decide, by decide +kernel,
    by decide, by decide⟩

theorem witness_ArmSwapsOrPends :
    let ready := standing (bank 4 2) pool
    let racing := standing (bank 4 2) (started .running 1 1 (swimmer 0) 0)
    let pended := { racing with banks := { racing.banks with pendingSwap := true } }
    (ConsoleServed ready ∧ PlacesFree 3 ready ∧ bankChainOpen ready = false ∧ ready.banks.pendingSwap = false
      ∧ validateBank ready.standbyBank = none ∧ ready.heat.state = .idle)
    ∧ (ConsoleServed racing ∧ PlacesFree 3 racing ∧ racing.banks.pendingSwap = false
      ∧ validateBank racing.standbyBank = none ∧ racing.heat.state = .running)
    ∧ (ConsoleServed pended ∧ PlacesFree 3 pended ∧ pended.banks.pendingSwap = true)
    ∧ ConsoleServed (waiting .marks 1) ∧ PlacesFree 3 (waiting .marks 1) ∧ (waiting .marks 1).heat.state = .marks :=
  ⟨⟨⟨⟨rfl, rfl⟩, rfl⟩, ⟨rfl, by decide⟩, rfl, rfl, by decide +kernel, rfl⟩,
    ⟨⟨⟨rfl, rfl⟩, rfl⟩, ⟨rfl, by decide⟩, rfl, by decide +kernel, rfl⟩,
    ⟨⟨⟨rfl, rfl⟩, rfl⟩, ⟨rfl, by decide⟩, rfl⟩, ⟨⟨rfl, rfl⟩, rfl⟩, ⟨rfl, by decide⟩, rfl⟩

theorem witness_HeatEntersClosing :
    let window := { limited with clock := ⟨5000000, none, some ⟨0, 5000000, 5000000⟩, none, none, none⟩ }
    (PlacesFree 3 limited ∧ ConsoleServed limited ∧ limited.heat.state = .running
      ∧ (advanceTo 60000000 limited).clock.heatLimit = some ⟨0, 60000000, 60000000⟩)
    ∧ (PlacesFree 3 (started .closed 1 1 vacantRecord 0) ∧ ConsoleServed (started .closed 1 1 vacantRecord 0)
      ∧ (started .closed 1 1 vacantRecord 0).heat.state = .closed)
    ∧ (PlacesFree 3 pool ∧ ConsoleServed pool ∧ pool.heat.state = .idle)
    ∧ PlacesFree 3 window ∧ (advanceTo 5000000 window).clock.recallWindow = some ⟨0, 5000000, 5000000⟩ :=
  ⟨⟨⟨rfl, by decide⟩, ⟨⟨rfl, rfl⟩, rfl⟩, rfl, rfl⟩, ⟨⟨rfl, by decide⟩, ⟨⟨rfl, rfl⟩, rfl⟩, rfl⟩,
    ⟨⟨rfl, by decide⟩, pool_served, rfl⟩, ⟨rfl, by decide⟩, rfl⟩

theorem witness_AbortAndClear :
    (ConsoleServed pool ∧ PlacesFree 3 pool ∧ pool.heat.state = .idle)
    ∧ (ConsoleServed limited ∧ PlacesFree 3 limited ∧ limited.heat.state = .running)
    ∧ ConsoleServed (waiting .armed 1) ∧ PlacesFree 3 (waiting .armed 1) ∧ (waiting .armed 1).heat.state = .armed :=
  ⟨⟨pool_served, ⟨rfl, by decide⟩, rfl⟩, ⟨⟨⟨rfl, rfl⟩, rfl⟩, ⟨rfl, by decide⟩, rfl⟩, ⟨⟨rfl, rfl⟩, rfl⟩,
    ⟨rfl, by decide⟩, rfl⟩

/-- A finished lane of a closed heat, timed by pad and by button. -/
def settled : State :=
  started .closed 1 1 { swimmer 1 with
    state := .finished, padFinish := some 25000000, official := some 25000000, source := .pad
    samples := [⟨1, 24900000⟩] } 0

theorem witness_MarkChangesDq :
    (ConsoleServed pool ∧ PlaceMade pool [] ∧ 9 < (10 : Byte).toNat ∧ 1 < (2 : Byte).toNat ∧ (1 : Byte).toNat ≤ 1
      ∧ pool.heat.state = .idle)
    ∧ (ConsoleServed settled ∧ PlaceMade settled [] ∧ settled.heat.state = .closed ∧ settled.lanes[1].state = .vacant
      ∧ settled.lanes[0].state ≠ .vacant ∧ settled.lanes[0].dq = ((0 : Byte) == 1)
      ∧ settled.lanes[0].dq ≠ ((1 : Byte) == 1) ∧ PlacesFree 11 settled)
    ∧ ConsoleServed limited ∧ PlaceMade limited [] ∧ limited.heat.state = .running ∧ limited.lanes[0].state ≠ .vacant
      ∧ PlacesFree 13 limited :=
  ⟨⟨pool_served, pool_place, by decide, by decide, by decide, rfl⟩,
    ⟨⟨⟨rfl, rfl⟩, rfl⟩, rfl, rfl, by decide +kernel, by decide +kernel, by decide +kernel, by decide +kernel, rfl,
      by decide⟩,
    ⟨⟨rfl, rfl⟩, rfl⟩, rfl, rfl, by decide +kernel, rfl, by decide⟩

theorem witness_SrcChangesSource :
    (ConsoleServed pool ∧ PlaceMade pool [] ∧ 9 < (10 : Byte).toNat ∧ (3 : Byte) ≠ 1 ∧ (3 : Byte) ≠ 2
      ∧ pool.heat.state ≠ .closed)
    ∧ ConsoleServed settled ∧ PlaceMade settled [] ∧ settled.heat.state = .closed
      ∧ settled.lanes[1].state = .vacant ∧ settled.lanes[0].state ≠ .vacant ∧ settled.lanes[0].source = .pad
      ∧ settled.lanes[0].padFinish ≠ none ∧ backupTime settled.lanes[0].samples ≠ none ∧ PlacesFree 11 settled :=
  ⟨⟨pool_served, pool_place, by decide, by decide, by decide, nofun⟩, ⟨⟨rfl, rfl⟩, rfl⟩, rfl, rfl, by decide +kernel,
    by decide +kernel, by decide +kernel, by decide +kernel, by decide +kernel, rfl, by decide⟩

theorem witness_TallyOrders : ConsoleServed pool ∧ PlaceMade pool [] ∧ 7 < (8 : Byte).toNat ∧ (7 : Byte) = byteOf (7 : Fin 8).val
    ∧ 17 < (18 : Byte).toNat ∧ (17 : Byte).toNat ≤ 17 ∧ (255 : Byte) = 255 ∧ (254 : Byte) ≠ 255 ∧ 6 < (7 : Byte).toNat
    ∧ (1 ≤ 16777215 ∧ 16777215 ≤ 16777215) ∧ ({ badChecks with count := 1 } : TallyCounter).overflow = false
    ∧ ({ badChecks with count := 1 } : TallyCounter).count = BitVec.ofNat 24 (16777216 - 16777215) :=
  ⟨pool_served, pool_place, by decide, by decide, by decide, by decide, rfl, by decide, by decide, by decide, rfl,
    by decide⟩

theorem witness_TimingResetClearsTheHeat : ConsoleServed (queued (fullQueue ⟨127, 1, 54, []⟩) padLost)
    ∧ ConsoleServed lampReplaced ∧ lampReplaced.lamps.records[0].lineState = true
    ∧ lampReplaced.lamps.records[0].recorded = some 44 :=
  ⟨⟨⟨rfl, rfl⟩, rfl⟩, ⟨⟨rfl, rfl⟩, rfl⟩, by decide +kernel, by decide +kernel⟩

theorem witness_ClockStepsAndHoldExpire :
    let held := { started .closed 1 1 vacantRecord 7 with
      banks := ⟨bank 1 1, bank 2 1, .a, true⟩, clock := ⟨7, none, none, none, none, some ⟨0, 7, 7⟩⟩ }
    ((advanceTo 60000000 limited).clock.clockStep = some ⟨0, 60000000, 599⟩ ∧ 100000 * (599 + 1) ≤ 60000000
      ∧ 60000000 < 100000 * (600 + 1) ∧ limited.heat.state = .running ∧ PlacesFree 1 limited)
    ∧ (advanceTo 7 held).clock.resultHold = some ⟨0, 7, 7⟩ ∧ 7 ≤ 7 ∧ held.banks.pendingSwap = true ∧ PlacesFree 2 held :=
  ⟨⟨rfl, by decide, by decide, rfl, ⟨rfl, by decide⟩⟩, rfl, by decide, rfl, ⟨rfl, by decide⟩⟩

theorem witness_ChannelTimersExpire :
    let home := { claimed with orders := { claimed.orders with home := some ⟨0, 7, 7⟩ } }
    let chained := { claimed with
      orders := { claimed.orders with handover := none, chain := some ⟨.bank, 1, 2, ⟨0, 7, 7⟩⟩ } }
    7 ≤ 7 ∧ (advanceTo 7 claimed).orders.claim = some ⟨0, 7, 7⟩ ∧ (advanceTo 7 claimed).orders.handover = some ⟨0, 7, 7⟩
      ∧ (advanceTo 7 claimed).orders.chain = none ∧ (advanceTo 7 home).orders.home = some ⟨0, 7, 7⟩
      ∧ (advanceTo 7 chained).orders.chain = some ⟨.bank, 1, 2, ⟨0, 7, 7⟩⟩ ∧ PlacesFree 1 chained :=
  ⟨by decide, rfl, rfl, rfl, rfl, rfl, ⟨rfl, by decide⟩⟩

/-- The lane's lamp follows pattern 0, one phase before its OFF edge. -/
theorem witness_LampPhaseStepFollowsPatterns :
    let s := { started .closed 2 1 vacantRecord 0 with lamps := { pool.lamps with
      patterns := pool.lamps.patterns.set 0 ⟨⟨100, 0, 50⟩, none, 49, .none⟩
      records := pool.lamps.records.set 0 ⟨some 0, true, true, some 45⟩ } }
    10000 ≤ (advanceTo 10000 s).lamps.sincePhase ∧ s.lamps.records[0].assignment = some 0
      ∧ s.lamps.patterns[0].phase + 1 < s.lamps.patterns[0].live.period ∧ lampStation s 0 = some 45
      ∧ s.lamps.records[0].recorded = some 45 ∧ s.deck.queue = [] ∧ s.lamps.records[1].assignment = none := by
  decide +kernel

/-- A step from a state that keeps the laws. -/
theorem witness_QueueLawsKept :
    let s := { pool with pending := [.poll 5] }
    BoardLaw s ∧ DeckLaw s ∧ ∃ t, step s = .next t :=
  ⟨⟨rfl, by decide, by decide⟩, ⟨by decide, by decide +kernel, nofun, by decide, by decide, nofun⟩, _, rfl⟩

theorem witness_RaceLawsKept :
    let s := { waiting .armed 1 with pending := [.poll 5] }
    RaceLaw s ∧ SplitLaw s ∧ ∃ t, step s = .next t := by
  refine ⟨⟨⟨nofun, nofun⟩, ?_, nofun, nofun, nofun, nofun, nofun, nofun⟩, ?_, _, rfl⟩
  · have : ∀ lane : Lane, (waiting .armed 1).lanes[lane].state = .vacant ∨ (waiting .armed 1).lanes[lane].state = .waiting := by
      decide +kernel
    intro lane
    show LaneStateFits .armed (waiting .armed 1).lanes[lane].state
    rcases this lane with h | h <;> rw [h]
    · trivial
    · exact .inl rfl
  · have : ∀ lane : Lane, (waiting .armed 1).lanes[lane].splits = [] ∧ (waiting .armed 1).lanes[lane].lengthCount = 0
        ∧ (waiting .armed 1).lanes[lane].samples = [] := by
      decide +kernel
    intro lane
    obtain ⟨splits, count, samples⟩ := this lane
    show ((waiting .armed 1).lanes[lane].splits.map _ = List.range' 1 (waiting .armed 1).lanes[lane].lengthCount
      ∧ ((waiting .armed 1).lanes[lane].samples.map _).Nodup)
    rw [splits, count, samples]
    exact ⟨rfl, List.nodup_nil⟩

theorem witness_TablesKeepTheirForm :
    let s := { pool with pending := [.poll 5] }
    NodeLaw s ∧ MemoryLaw s ∧ ∃ t, step s = .next t :=
  ⟨pool_nodeLaw, (by decide : (⟨[]⟩ : Memory).wf), _, rfl⟩

theorem witness_ChannelLawKept :
    let s := { ownedBy .panel pool with pending := [.poll 5] }
    ChannelLaw s ∧ ∃ t, step s = .next t :=
  ⟨⟨⟨nofun, fun h => nomatch h.1⟩, ⟨nofun, fun h => nomatch h.2.1⟩, nofun⟩, _, rfl⟩

end Sys2Proof.Machine.Tests
end

section
/-! What ARM validation finds, check by check of table 4-4, and what an owner's order that changes nothing answers
(R66, R150). -/

namespace Sys2Proof.Machine

/-! ### An owner's order that only answers -/

/-- An owner's turn leaves every block but the Order Handler as time moving on leaves it. -/
theorem ownerTurn_eq (now : Tick) (s : State) :
    ownerTurn now s = (advanceTo now s).setOrders (ownerTurn now s).orders := noteOwnerOrder_eq (advanceTo now s)

@[simp] theorem ownerTurn_heat (now : Tick) (s : State) : (ownerTurn now s).heat = s.heat := by
  rw [ownerTurn_eq]; rfl

@[simp] theorem ownerTurn_banks (now : Tick) (s : State) : (ownerTurn now s).banks = s.banks := by
  rw [ownerTurn_eq]; rfl

@[simp] theorem ownerTurn_settings (now : Tick) (s : State) : (ownerTurn now s).settings = s.settings := by
  rw [ownerTurn_eq]; rfl

@[simp] theorem ownerTurn_board (now : Tick) (s : State) : (ownerTurn now s).board = (advanceTo now s).board := by
  rw [ownerTurn_eq]; rfl

/-- An owner's turn starts the timers of the channel alone: the load chain stands as time moving on leaves it. -/
theorem noteOwnerOrder_chain (s : State) : (noteOwnerOrder s).orders.chain = s.orders.chain := by
  have handover (s : State) : (startHandover s).orders.chain = s.orders.chain := by
    unfold startHandover
    split <;> rfl
  have home (s : State) : (startHome s).orders.chain = s.orders.chain := by
    unfold startHome
    split <;> rfl
  exact (home _).trans (handover s)

@[simp] theorem bankChainOpen_ownerTurn (now : Tick) (s : State) :
    bankChainOpen (ownerTurn now s) = bankChainOpen s := by
  have chain : (ownerTurn now s).orders.chain = (advanceTo now s).orders.chain := noteOwnerOrder_chain _
  have advanced : (advanceTo now s).orders.chain
      = s.orders.chain.map fun c => { c with gap := runTimer (now - s.clock.tick).toNat c.gap } := rfl
  unfold bankChainOpen
  rw [chain, advanced]
  cases s.orders.chain <;> rfl

/-- A channel-needing order of the console as owner that changes nothing of its own: the turn's timers and the RESPONSE
are all it leaves. -/
theorem consoleOrder_owner_unchanged {now : Tick} {src tag : Byte} {code : OrderCode} {body : List Byte}
    {effect : State → State × Answer} {s : State} {room : List Telegram} {a : Answer} (served : ConsoleServed s)
    (place : PlaceMade s room) (suits : lengthSuits code body.length = true) (needs : needsChannel code = true)
    (unchanged : ∀ b : BoardTransmitter,
      effect ((ownerTurn now s).setBoard b) = ((ownerTurn now s).setBoard b, a)) :
    consoleOrder src code tag body effect (advanceTo now s) =
      answered (ownerTurn now s) room (response s src tag code a.status a.reason a.body) := by
  rw [consoleOrder_owner served place suits needs, unchanged]
  unfold respondConsole fillReservation responseTelegram answered response responsePayload
  rw [State.setBoard_settings, ownerTurn_settings, State.setBoard_board, ownerTurn_board]
  rfl

/-! ### The checks of table 4-4 -/

/-- Check 1: an EMPTY bank. -/
theorem validateBank_empty {b : Bank} (empty : b.head = none) : validateBank b = some .empty := by
  unfold validateBank
  rw [empty]

/-- Checks 2 to 7 of a loaded bank, in their order. -/
theorem validateBank_loaded {b : Bank} {h : HeatHead} (head : b.head = some h) :
    validateBank b =
      if ¬ (1 ≤ h.lengths ∧ h.lengths ≤ 60) then some .lengths
      else if ¬ (h.legs = 1 ∨ h.legs = 2 ∨ h.legs = 4) then some .legs
      else if ¬ h.legs ∣ h.lengths then some .indivisible
      else if 1 < h.legs ∧ h.lengths / h.legs % 2 = 1 then some .oddLeg
      else if ¬ ∃ lane : Lane, b.lanes[lane].occupied = true then some .noLane
      else if 1000000 * h.heatLimit < h.lengths * (1000 * h.minLength) then some .shortLimit
      else none := by
  have occupied : b.lanes.toList.any (fun e => e.occupied) = true ↔ ∃ lane : Lane, b.lanes[lane].occupied = true := by
    rw [Vector.any_toList, Vector.any_eq_true]
    exact (Fin.exists_iff (p := fun lane : Lane => b.lanes[lane].occupied = true)).symm
  unfold validateBank
  rw [head]
  simp only [occupied, Nat.dvd_iff_mod_eq_zero, secToMicros, msToMicros, ne_eq]
  congr -- the two sides differ in how the conditions are decided

/-- The number of lengths in a leg is odd exactly when the lengths are an odd multiple of the legs. -/
theorem odd_leg_iff {lengths legs : Nat} (positive : 0 < legs) (divides : legs ∣ lengths) :
    lengths / legs % 2 = 1 ↔ ∃ k, lengths = (2 * k + 1) * legs := by
  have quotient (k : Nat) : lengths / legs = 2 * k + 1 ↔ lengths = (2 * k + 1) * legs :=
    Nat.div_eq_iff_eq_mul_left positive divides
  rw [← exists_congr quotient]
  exact ⟨fun odd => ⟨lengths / legs / 2, by omega⟩, fun ⟨k, odd⟩ => by omega⟩

/-- ARM on a standby bank that fails validation is refused with the failing check's reason and changes nothing. -/
theorem orderArm_invalid {s : State} {why : ArmFault} (state : s.heat.state ≠ .marks)
    (chain : bankChainOpen s = false) (noSwap : s.banks.pendingSwap = false)
    (invalid : validateBank s.standbyBank = some why) : orderArm s = (s, refuse (armFaultCode why)) := by
  simp [orderArm, state, chain, noSwap, invalid]

/-- The console's ARM on a standby bank that fails validation, served and placed. -/
theorem exec_arm_invalid {now : Tick} {src tag : Byte} {s : State} {room : List Telegram} {why : ArmFault}
    (served : ConsoleServed s) (place : PlaceMade s room) (state : s.heat.state ≠ .marks)
    (chain : bankChainOpen s = false) (noSwap : s.banks.pendingSwap = false)
    (invalid : validateBank s.standbyBank = some why) :
    exec (.arm now src tag []) s =
      .next (answered (ownerTurn now s) room (response s src tag .arm .refused (armFaultCode why) [])) := by
  have unchanged (b : BoardTransmitter) : orderArm ((ownerTurn now s).setBoard b) =
      ((ownerTurn now s).setBoard b, refuse (armFaultCode why)) := by
    have standby : ((ownerTurn now s).setBoard b).standbyBank = s.standbyBank := by
      simp [State.standbyBank]
    exact orderArm_invalid (by simpa using state) ((bankChainOpen_ownerTurn now s).trans chain)
      (by simpa using noSwap) (standby ▸ invalid)
  exact congrArg Host.Outcome.next (consoleOrder_owner_unchanged served place rfl rfl unchanged)

/-- Settles O45: a served ARM is refused with whatever fault `validateBank` finds, and `validateBank` goes through the
checks of table 4-4 in their order. -/
theorem armValidation : Obligations.ArmValidation := by
  unfold Obligations.ArmValidation
  intro now src tag s room served place state chain noSwap _ occupiedLane
  have refused {why : ArmFault} (invalid : validateBank s.standbyBank = some why) :=
    exec_arm_invalid (now := now) (src := src) (tag := tag) served place state chain noSwap invalid
  refine ⟨fun empty => refused (validateBank_empty empty), fun h head => ?_⟩
  intro c2 c3 c4 c5 c7
  have divides : h.legs ∣ h.lengths ↔ c4 := exists_congr fun k => by rw [Nat.mul_comm]
  have even (legal : c3) (divided : c4) : ¬ (1 < h.legs ∧ h.lengths / h.legs % 2 = 1) ↔ c5 :=
    not_congr (and_congr_right fun _ => odd_leg_iff (by omega) (divides.mpr divided))
  -- `fromN`: what validation comes to once the checks before check N hold.
  have from2 := validateBank_loaded head
  have from3 (h2 : c2) := from2.trans (if_neg (not_not_intro h2))
  have from4 (h2 : c2) (h3 : c3) := (from3 h2).trans (if_neg (not_not_intro h3))
  have from5 (h2 : c2) (h3 : c3) (h4 : c4) := (from4 h2 h3).trans (if_neg (not_not_intro (divides.mpr h4)))
  have from6 (h2 : c2) (h3 : c3) (h4 : c4) (h5 : c5) := (from5 h2 h3 h4).trans (if_neg ((even h3 h4).mpr h5))
  have from7 (h2 : c2) (h3 : c3) (h4 : c4) (h5 : c5) (h6 : occupiedLane) :=
    (from6 h2 h3 h4 h5).trans (if_neg (not_not_intro h6))
  exact ⟨fun h2 => refused (from2.trans (if_pos h2)),
    fun h2 h3 => refused ((from3 h2).trans (if_pos h3)),
    fun h2 h3 h4 => refused ((from4 h2 h3).trans (if_pos (mt divides.mp h4))),
    fun h2 h3 h4 h5 => refused ((from5 h2 h3 h4).trans (if_pos (Classical.not_not.mp (mt (even h3 h4).mp h5)))),
    fun h2 h3 h4 h5 h6 => refused ((from6 h2 h3 h4 h5).trans (if_pos h6)),
    fun h2 h3 h4 h5 h6 h7 => refused ((from7 h2 h3 h4 h5 h6).trans (if_pos (Nat.not_le.mp h7))),
    fun h2 h3 h4 h5 h6 h7 => (from7 h2 h3 h4 h5 h6).trans (if_neg (Nat.not_lt.mpr h7))⟩

end Sys2Proof.Machine
end

section
/-! What offering a telegram to the board queue comes to: coalescing, the telegram that gives way, the discard, and the
bounds of the queue (R133 to R135). -/

namespace Sys2Proof.Machine

/-! ### Coalescing (R133) -/

theorem coalesce_eq (t : Telegram) (queue : List Telegram) : coalesce t queue =
    if t.kind = kindSplit then queue.filter fun q => !isSplitOf t.payload.head? q else queue := by
  simp [coalesce]

theorem coalesce_sublist (t : Telegram) (queue : List Telegram) : (coalesce t queue).Sublist queue := by
  rw [coalesce_eq]
  split
  · exact List.filter_sublist
  · exact List.Sublist.refl queue

/-- A queue that holds no SPLIT has nothing to coalesce. -/
theorem coalesce_noSplit (t : Telegram) {queue : List Telegram} (noSplit : ∀ q ∈ queue, q.kind ≠ kindSplit) :
    coalesce t queue = queue := by
  rw [coalesce_eq]
  split
  · exact List.filter_eq_self.mpr fun q mem => by simp [isSplitOf, noSplit q mem]
  · rfl

/-- Behind the coalescing of a SPLIT no SPLIT of its lane is left. -/
theorem coalesce_otherLane {t q : Telegram} {queue : List Telegram} (split : t.kind = kindSplit)
    (mem : q ∈ coalesce t queue) (kind : q.kind = kindSplit) : q.payload.head? ≠ t.payload.head? := by
  rw [coalesce_eq, if_pos split] at mem
  simpa [isSplitOf, kind] using (List.mem_filter.mp mem).2

/-! ### The telegram that gives way (R134) -/

/-- The oldest telegram of a kind is the one that leaves. -/
theorem removeOldest_first {kind : Byte} {before behind : List Telegram} {oldest : Telegram} (is : oldest.kind = kind)
    (others : ∀ q ∈ before, q.kind ≠ kind) :
    removeOldest kind (before ++ oldest :: behind) = some (before ++ behind) := by
  have skipped : ∀ q ∈ before, ¬ (q.kind == kind) = true := fun q mem => by simpa using others q mem
  unfold removeOldest
  rw [if_pos (by simp [is]), List.eraseP_append_right _ skipped, List.eraseP_cons_of_pos (by simpa using is)]

/-- A full queue gives up its oldest CLOCK, or its oldest SPLIT when it holds no CLOCK. -/
theorem makeRoom_full {reserved : Bool} {queue : List Telegram} (full : 32 ≤ placesTaken reserved queue) :
    makeRoom reserved queue = (removeOldest kindClock queue).or (removeOldest kindSplit queue) := by
  have notFree : ¬ placesTaken reserved queue < Config.boardPlaces := Nat.not_lt.mpr full
  unfold makeRoom
  rw [if_neg notFree]
  cases removeOldest kindClock queue <;> rfl

/-- Without the telegram that left, the queue is one shorter and the rest stand as they stood. -/
theorem removeOldest_shortens {kind : Byte} {queue less : List Telegram} (h : removeOldest kind queue = some less) :
    less.Sublist queue ∧ less.length + 1 = queue.length := by
  obtain ⟨before, oldest, behind, rfl, _, _, rfl⟩ := removeOldest_some h
  exact ⟨List.Sublist.append_left (List.sublist_cons_self oldest behind) before, by simp; omega⟩

/-- The room made is the queue less at most one telegram, and has a place free when the queue was within its bound. -/
theorem makeRoom_some {reserved : Bool} {queue room : List Telegram} (made : makeRoom reserved queue = some room)
    (bound : placesTaken reserved queue ≤ 32) : room.Sublist queue ∧ placesTaken reserved room < 32 := by
  by_cases free : placesTaken reserved queue < 32
  · rw [makeRoom_free free] at made
    cases made
    exact ⟨List.Sublist.refl queue, free⟩
  · rw [makeRoom_full (Nat.le_of_not_lt free)] at made
    have ⟨sub, shorter⟩ : room.Sublist queue ∧ room.length + 1 = queue.length := by
      rcases Option.or_eq_some_iff.mp made with clock | ⟨_, split⟩
      · exact removeOldest_shortens clock
      · exact removeOldest_shortens split
    refine ⟨sub, ?_⟩
    unfold placesTaken at bound ⊢
    omega

/-! ### The bounds of the queue -/

/-- The lanes of the SPLITs queued, in the order of the queue. -/
def splitLanes (queue : List Telegram) : List (Option Byte) :=
  (queue.filter fun q => q.kind == kindSplit).map fun q => q.payload.head?

/-- The board queue keeps its 32 places, a reservation counted, and holds at most one SPLIT a lane (R133, R134). -/
def BoardBounds (b : BoardTransmitter) : Prop := placesTaken b.reserved b.queue ≤ 32 ∧ (splitLanes b.queue).Nodup

theorem splitLanes_sublist {less queue : List Telegram} (sub : less.Sublist queue) :
    (splitLanes less).Sublist (splitLanes queue) := (sub.filter _).map _

/-- A telegram behind a queue that holds no SPLIT of its lane leaves the lanes of the SPLITs different. -/
theorem splitLanes_append_nodup {room : List Telegram} {t : Telegram} (differ : (splitLanes room).Nodup)
    (other : t.kind = kindSplit → ∀ q ∈ room, q.kind = kindSplit → q.payload.head? ≠ t.payload.head?) :
    (splitLanes (room ++ [t])).Nodup := by
  by_cases split : t.kind = kindSplit
  · have joined : splitLanes (room ++ [t]) = splitLanes room ++ [t.payload.head?] := by simp [splitLanes, split]
    have absent : t.payload.head? ∉ splitLanes room := by
      intro mem
      obtain ⟨q, queued, same⟩ := List.mem_map.mp mem
      obtain ⟨here, kind⟩ := List.mem_filter.mp queued
      exact other split q here (by simpa using kind) same
    rw [joined, List.nodup_append]
    refine ⟨differ, List.pairwise_singleton .., fun lane here last is equal => ?_⟩
    obtain rfl := List.mem_singleton.mp is
    exact absent (equal ▸ here)
  · have joined : splitLanes (room ++ [t]) = splitLanes room := by simp [splitLanes, split]
    rwa [joined]

/-- A telegram admitted keeps the bounds of the queue. -/
theorem boardBounds_insertBoard {t : Telegram} {b : BoardTransmitter} {queue : List Telegram} (bounds : BoardBounds b)
    (admitted : insertBoard b.reserved t b.queue = some queue) : BoardBounds { b with queue := queue } := by
  obtain ⟨places, differ⟩ := bounds
  obtain ⟨room, made, rfl⟩ := Option.map_eq_some_iff.mp admitted
  have coalesced := coalesce_sublist t b.queue
  have within : placesTaken b.reserved (coalesce t b.queue) ≤ 32 :=
    Nat.le_trans (Nat.add_le_add_right coalesced.length_le _) places
  obtain ⟨sub, free⟩ := makeRoom_some made within
  refine ⟨?_, splitLanes_append_nodup ((splitLanes_sublist (sub.trans coalesced)).nodup differ)
    fun split q mem kind => coalesce_otherLane split (sub.subset mem) kind⟩
  simp only [placesTaken, List.length_append, List.length_singleton] at free ⊢
  omega

/-! ### Offering -/

/-- A telegram for which room is made joins the tail of that room. -/
theorem offer_admitted {t : Telegram} {s : State} {room : List Telegram}
    (made : makeRoom s.board.reserved (coalesce t s.board.queue) = some room) :
    offer t s = s.setBoard { s.board with queue := room ++ [t] } := by
  simp [offer, offerAt, offerWith, insertBoard, made]

/-- A queue that makes no room holds no SPLIT, so it makes none behind coalescing either. -/
theorem insertBoard_unplaced {reserved : Bool} {queue : List Telegram} (t : Telegram)
    (unplaced : makeRoom reserved queue = none) : insertBoard reserved t queue = none := by
  have noSplit : ∀ q ∈ queue, q.kind ≠ kindSplit := fun q mem => ((makeRoom_none.mp unplaced).2 q mem).2
  rw [insertBoard, coalesce_noSplit t noSplit, unplaced]
  rfl

/-- A telegram that finds no room is discarded: BOARD_DISCARD is counted, then OVERRUN raised (R135). -/
theorem offerWith_unplaced {raise : NoticeKind → State → State} {t : Telegram} {s : State}
    (unplaced : makeRoom s.board.reserved s.board.queue = none) :
    offerWith raise t s = raise .overrun (countWith raise .boardDiscard (discardLane t) (discardStation t) s) := by
  rw [offerWith, insertBoard_unplaced t unplaced]

/-- What an admission, a change of the tallies and a rising status keep, offering keeps: the nested NOTICEs of a discard
do nothing else (R136). -/
theorem offerAt_keeps {P : State → Prop}
    (admission : ∀ t s queue, P s → insertBoard s.board.reserved t s.board.queue = some queue →
      P (s.setBoard { s.board with queue := queue }))
    (tally : ∀ s x, P s → P (s.setTally x)) (rise : ∀ k s, P s → P (setStatus k true s)) (n : Nat) :
    ∀ t s, P s → P (offerAt n t s) := by
  have counting {raise : NoticeKind → State → State} (raising : ∀ k s, P s → P (raise k s)) (e : TallyEvent)
      (lane : Option Lane) (station : Option Byte) (s : State) (holds : P s) :
      P (countWith raise e lane station s) := by
    unfold countWith
    split
    · exact raising _ _ (tally s _ holds)
    · exact tally s _ holds
  have offering {raise : NoticeKind → State → State} (raising : ∀ k s, P s → P (raise k s)) (t : Telegram)
      (s : State) (holds : P s) : P (offerWith raise t s) := by
    unfold offerWith
    split
    · next queue admitted => exact admission t s queue holds admitted
    · exact raising _ _ (counting raising _ _ _ s holds)
  induction n with
  | zero => exact offering rise
  | succ n ih =>
    refine offering fun k s holds => ?_
    unfold raiseWith
    split
    · exact holds
    · dsimp only
      split
      · exact ih _ _ (rise k s holds)
      · exact rise k s holds

/-- Offering keeps the bounds of the board queue. -/
theorem offer_boardBounds (t : Telegram) {s : State} (bounds : BoardBounds s.board) :
    BoardBounds (offer t s).board :=
  offerAt_keeps (P := fun s => BoardBounds s.board) (fun _ _ _ => boardBounds_insertBoard) (fun _ _ h => h)
    (fun _ _ h => h) 2 t s bounds

/-- A queue that makes no room takes nothing, the NOTICEs of the discard included (R136). -/
theorem offer_unplaced_board (t : Telegram) {s : State} (unplaced : makeRoom s.board.reserved s.board.queue = none) :
    (offer t s).board = s.board := by
  refine offerAt_keeps (P := fun u => u.board = s.board) (fun t u queue same admitted => ?_) (fun _ _ h => h)
    (fun _ _ h => h) 2 t s rfl
  rw [same, insertBoard_unplaced t unplaced] at admitted
  exact nomatch admitted

/-! ### Notices of a discard (R135, R136) -/

theorem notice_setStatus (k : NoticeKind) (status : Bool) (s : State) :
    ((setStatus k status s).notice k).status = status := by
  simp [State.notice, setStatus]

/-- A rising status leaves every status that is set as it is. -/
theorem setStatus_keeps_set {k : NoticeKind} (risen : NoticeKind) {s : State} (set : (s.notice k).status = true) :
    ((setStatus risen true s).notice k).status = true := by
  simp only [State.notice, setStatus, State.setOrders_orders, Fin.getElem_fin, modifyAt_getElem]
  split
  · rfl
  · exact set

/-- No offer clears a notice status. -/
theorem offerAt_keeps_set {k : NoticeKind} (n : Nat) (t : Telegram) {s : State} (set : (s.notice k).status = true) :
    ((offerAt n t s).notice k).status = true :=
  offerAt_keeps (P := fun s => (s.notice k).status = true) (fun _ _ _ h _ => h) (fun _ _ h => h)
    (fun risen _ h => setStatus_keeps_set risen h) n t s set

/-- A notice kind that is raised stands set afterwards. -/
theorem raiseWith_sets (n : Nat) (k : NoticeKind) (s : State) :
    ((raiseWith (offerAt n) k s).notice k).status = true := by
  unfold raiseWith
  split
  · assumption
  · dsimp only
    split
    · exact offerAt_keeps_set n _ (notice_setStatus k true s)
    · exact notice_setStatus k true s

/-- A notice kind that stands set is not raised again, however its NOTICE would be offered. -/
theorem raiseWith_set {offer : Telegram → State → State} {k : NoticeKind} {s : State}
    (set : (s.notice k).status = true) : raiseWith offer k s = s := if_pos set

/-- A discard with OVERRUN and TALLY_OVERFLOW set counts BOARD_DISCARD and does nothing else. -/
theorem offer_unplaced_set {t : Telegram} {s : State} (unplaced : makeRoom s.board.reserved s.board.queue = none)
    (overrun : (s.notice .overrun).status = true) (tallyOverflow : (s.notice .tallyOverflow).status = true) :
    offer t s = s.setTally (tallyAfter s.tally .boardDiscard (discardLane t) (discardStation t)) := by
  have counted : countWith (raiseWith (offerAt 1)) .boardDiscard (discardLane t) (discardStation t) s =
      s.setTally (tallyAfter s.tally .boardDiscard (discardLane t) (discardStation t)) := by
    unfold countWith
    split
    · exact raiseWith_set (k := .tallyOverflow) tallyOverflow
    · rfl
  calc offer t s
    _ = raiseWith (offerAt 1) .overrun _ := offerWith_unplaced unplaced
    _ = _ := by rw [counted]; exact raiseWith_set (k := .overrun) overrun

/-- A discard leaves OVERRUN set. -/
theorem offer_unplaced_overrun {t : Telegram} {s : State} (unplaced : makeRoom s.board.reserved s.board.queue = none) :
    ((offer t s).notice .overrun).status = true := by
  have discarded : offer t s = raiseWith (offerAt 1) .overrun _ := offerWith_unplaced unplaced
  rw [discarded]
  exact raiseWith_sets 1 .overrun _

/-- Settles O25: each clause is one way through `makeRoom` on the coalesced queue, and the bounds are kept by the
admissions alone. -/
theorem boardInsertionRule : Obligations.BoardInsertionRule := by
  unfold Obligations.BoardInsertionRule
  intro t s queue full joined taken splitsDiffer
  have coalesced : coalesce t s.board.queue = queue := coalesce_eq t s.board.queue
  have admitted {room : List Telegram} (made : makeRoom s.board.reserved queue = some room) : offer t s = joined room :=
    offer_admitted (coalesced ▸ made)
  refine ⟨fun free => admitted (makeRoom_free (Nat.not_le.mp free)), ?clock, ?split, ?discard,
    fun places differ => offer_boardBounds t ⟨places, differ⟩⟩
  case clock =>
    intro full before oldest behind whole is others
    apply admitted
    rw [makeRoom_full full, whole, removeOldest_first is others]
    rfl
  case split =>
    intro full noClock before oldest behind whole is others
    apply admitted
    rw [makeRoom_full full, removeOldest_none.mpr noClock, whole, removeOldest_first is others]
    rfl
  case discard =>
    intro full neither
    have still : queue = s.board.queue := coalesced ▸ coalesce_noSplit t fun q mem => (neither q mem).2
    have unplaced : makeRoom s.board.reserved s.board.queue = none := makeRoom_none.mpr ⟨still ▸ full, neither⟩
    exact ⟨offer_onlyAnnounces t s, offer_unplaced_board t unplaced, offer_unplaced_overrun unplaced,
      fun overrun tallyOverflow => by rw [offer_unplaced_set unplaced overrun tallyOverflow]; rfl⟩

end Sys2Proof.Machine
end
section
/-! What the operations of the module keep. A law of the state is kept by an operation when it is kept by the changes that
the operation is made of; those changes are listed here once, group by group, and each operation is taken apart once. -/

namespace Sys2Proof.Machine

/-! ### The changes

A law that does not speak of the blocks a change replaces is kept by it with nothing to prove; that is what each field
falls back to. -/

/-- The announcements: a telegram admitted to the board queue, the tallies, the notices. -/
structure KeptByAnnouncing (P : State → Prop) : Prop where
  admits : ∀ {s : State} {t : Telegram} {queue : List Telegram},
    insertBoard s.board.reserved t s.board.queue = some queue → P s → P (s.setBoard { s.board with queue := queue }) :=
    by exact fun _ h => h
  tally : ∀ {s : State} (x : TallyUnit), P s → P (s.setTally x) := by exact fun _ h => h
  notices : ∀ {s : State} (x : Vector Notice 12), P s → P (s.setOrders { s.orders with notices := x }) :=
    by exact fun _ h => h

/-- Two node tables hold the same entries, whatever their runtime fields. -/
def SameEntries (x y : NodeTable) : Prop := ∀ i : Fin 64, x[i].map Node.entry = y[i].map Node.entry

/-- The announcements, and the runtime fields of the node table. -/
structure KeptByRuntime (P : State → Prop) : Prop extends KeptByAnnouncing P where
  nodes : ∀ {s : State} (x : NodeTable), SameEntries x s.nodes → P s → P (s.setNodes x) := by exact fun _ _ h => h

/-- The deck command queue with a LAMP: it takes the place of the LAMP for its station, or joins the tail (R20). -/
def withLamp (e : DeckEntry) (queue : List DeckEntry) : List DeckEntry :=
  if queue.any (isLampFor e.telegram.dest) then queue.map fun q => if isLampFor e.telegram.dest q then e else q
  else queue ++ [e]

/-- Every LAMP of a lane that is queued is for a station. -/
def LampsQueuedFor (s : State) (lane : Lane) (station : Byte) : Prop :=
  ∀ e ∈ s.deck.queue, e.origin = .lamp lane → e.telegram.dest = station

/-- The Lamp Generator's work: patterns and records with the recorded stations as they are, and a LAMP of a lane queued for
the station then recorded, which no other LAMP of the lane contradicts. -/
structure KeptByLamps (P : State → Prop) : Prop where
  lamps : ∀ {s : State} (x : LampGenerator),
    (∀ lane : Lane, x.records[lane].recorded = s.lamps.records[lane].recorded) → P s → P (s.setLamps x) :=
    by exact fun _ _ h => h
  produce : ∀ {s : State} {lane : Lane} {station : Byte} (r : LampRecord) (t : Telegram),
    r.recorded = some station → t.dest = station →
    LampsQueuedFor s lane station ∨ s.lamps.records[lane].recorded = some station → P s →
    P ((setLamp lane r s).setDeck { s.deck with queue := withLamp ⟨.lamp lane, t⟩ s.deck.queue }) :=
    by exact fun _ _ _ _ _ h => h

/-- A lane record whose state, splits and samples are as they were. -/
structure SameCourse (r r' : LaneRecord) : Prop where
  state : r'.state = r.state
  splits : r'.splits = r.splits
  count : r'.lengthCount = r.lengthCount
  samples : r'.samples = r.samples

/-- Work on the lane records beside their course, with its announcements and boosts. -/
structure KeptByRecords (P : State → Prop) : Prop extends KeptByRuntime P where
  records : ∀ {s : State} (x : Vector LaneRecord 10), (∀ lane : Lane, SameCourse s.lanes[lane] x[lane]) → P s →
    P (s.setLanes x) := by exact fun _ _ h => h

/-- The Result Unit's work. -/
structure KeptByResults (P : State → Prop) : Prop extends KeptByRecords P, KeptByLamps P where
  results : ∀ {s : State} (x : ResultUnit), P s → P (s.setResults x) := by exact fun _ h => h

/-- The Lane Judge's work on the course of a lane. -/
structure KeptByCourse (P : State → Prop) : Prop where
  split : ∀ {s : State} (lane : Lane) (time touch : Option Int) (late : Bool), P s →
    P (setLane lane { s.lanes[lane] with
      splits := s.lanes[lane].splits ++ [⟨s.lanes[lane].lengthCount + 1, time⟩]
      lengthCount := s.lanes[lane].lengthCount + 1, lastTouch := touch, late := late } s) := by exact fun _ _ _ _ h => h
  finish : ∀ {s : State} (lane : Lane) (r : LaneRecord), s.lanes[lane].state = .swimming →
    SameCourse { s.lanes[lane] with state := .finished } r → P s → P (setLane lane r s) := by exact fun _ _ _ _ h => h
  sample : ∀ {s : State} (lane : Lane) (position : Nat) (time : Int) (late : Bool),
    (∀ x ∈ s.lanes[lane].samples, x.position ≠ position) → P s →
    P (setLane lane { s.lanes[lane] with
      samples := s.lanes[lane].samples ++ [⟨position, time⟩], late := late } s) := by exact fun _ _ _ _ _ h => h

/-- The changes of the heat, each with the clock, the lanes and the banks that go with it. -/
structure KeptByHeat (P : State → Prop) : Prop where
  marks : ∀ {s : State}, s.heat.state = .armed → P s → P (setHeatState .marks s) := by exact fun _ h => h
  start : ∀ {s : State} (tick : Tick) (lanes : Vector LaneRecord 10) (limit window : Timer) (step : StepTimer),
    s.heat.state = .armed ∨ s.heat.state = .marks →
    (∀ lane : Lane, lanes[lane] = startRecord tick s.lanes[lane]) → P s →
    P (((s.setHeat ⟨.running, some tick⟩).setLanes lanes).setClock { s.clock with
      heatLimit := some limit, recallWindow := some window, clockStep := some step }) :=
    by exact fun _ _ _ _ _ _ _ h => h
  recallMarks : ∀ {s : State}, s.heat.state = .marks → P s → P (initialiseLanes (setHeatState .armed s)) :=
    by exact fun _ h => h
  recallStart : ∀ {s : State}, s.heat.state = .running → P s →
    P (initialiseLanes (setHeatState .armed (discardStart
      (s.setClock { s.clock with heatLimit := none, recallWindow := none, clockStep := none })))) :=
    by exact fun _ h => h
  closing : ∀ {s : State} (window : Timer), s.heat.state = .running → P s →
    P (setHeatState .closing (s.setClock { s.clock with
      heatLimit := none, recallWindow := none, buttonWindow := some window })) := by exact fun _ _ h => h
  closed : ∀ {s : State}, s.heat.state = .closing → s.clock.buttonWindow = none → P s →
    P ((setHeatState .closed (s.setClock { s.clock with clockStep := none })).setLanes (mapAll s.lanes closeRecord)) :=
    by exact fun _ _ h => h
  hold : ∀ {s : State} (timer : Timer), s.heat.state = .closed → s.banks.pendingSwap = true → P s →
    P (s.setClock { s.clock with resultHold := some timer }) := by exact fun _ _ _ h => h
  swap : ∀ {s : State}, P s → P (setHeatState .armed (initialiseLanes (discardStart (stopHeatTimers
    (s.setBanks { s.banks with active := otherBank s.banks.active }))))) := by exact fun h => h
  pend : ∀ {s : State}, s.heat.state = .running ∨ s.heat.state = .closing → P s →
    P (s.setBanks { s.banks with pendingSwap := true }) := by exact fun _ h => h
  unpend : ∀ {s : State}, s.clock.resultHold = none → P s → P (clearPendingSwap s) := by exact fun _ h => h
  abort : ∀ {s : State}, P s →
    P (initialiseLanes (setHeatState .armed (clearPendingSwap (discardStart (stopHeatTimers s))))) :=
    by exact fun h => h
  clear : ∀ {s : State}, s.heat.state = .armed ∨ s.heat.state = .closed → P s →
    P (vacateLanes (setHeatState .idle (clearPendingSwap (discardStart
      (s.setClock { s.clock with resultHold := none }))))) := by exact fun _ h => h
  clock : ∀ {s : State} (c : RaceClock), c.tick = s.clock.tick →
    (c.heatLimit.isSome = true → s.clock.heatLimit.isSome = true) →
    (c.recallWindow.isSome = true → s.clock.recallWindow.isSome = true) →
    (c.clockStep.isSome = true → s.clock.clockStep.isSome = true) →
    (c.buttonWindow.isSome = true → s.clock.buttonWindow.isSome = true) →
    (c.resultHold.isSome = true → s.clock.resultHold.isSome = true) → P s → P (s.setClock c) :=
    by exact fun _ _ _ _ _ _ _ h => h

/-- The schedule of the Deck Poller: everything of it but the deck command queue and the mark of a QUERY on the line. -/
structure KeptBySchedule (P : State → Prop) : Prop extends KeptByRuntime P where
  schedule : ∀ {s : State} (d : DeckPoller), d.queue = s.deck.queue → d.queryOnLine = s.deck.queryOnLine → P s →
    P (s.setDeck d) := by exact fun _ _ _ h => h

/-- The deck command queue and the node query. -/
structure KeptByDeckQueue (P : State → Prop) : Prop where
  joins : ∀ {s : State} {e : DeckEntry} {queue : List DeckEntry}, insertDeck e s.deck.queue = some queue →
    e.origin = .response ∨ e.origin = .passThrough → P s → P (s.setDeck { s.deck with queue := queue }) :=
    by exact fun _ _ h => h
  asks : ∀ {s : State} (q : Query) (t : Telegram), s.orders.slot = .free → P s →
    P ((s.setOrders { s.orders with slot := .waiting q none }).setDeck
      { s.deck with queue := s.deck.queue ++ [⟨.query, t⟩] }) := by exact fun _ _ _ h => h
  sends : ∀ {s : State} {e : DeckEntry} {rest : List DeckEntry} (line : Option Telegram), s.deck.queue = e :: rest → P s →
    P (s.setDeck { s.deck with
      queue := rest, line := line, queryOnLine := s.deck.queryOnLine || e.origin == .query }) := by exact fun _ _ h => h
  sent : ∀ {s : State} (slot : QuerySlot), s.deck.queryOnLine = true →
    slot = s.orders.slot ∨ (∃ q timer, slot = .waiting q (some timer)) → P s →
    P ((s.setDeck { s.deck with queryOnLine := false }).setOrders { s.orders with slot := slot }) :=
    by exact fun _ _ _ h => h
  held : ∀ {s : State} {q : Query} {timer : Timer} (result : QueryResult) (collection : Timer),
    s.orders.slot = .waiting q (some timer) → P s →
    P (s.setOrders { s.orders with slot := .held q result collection }) := by exact fun _ _ _ h => h
  freed : ∀ {s : State} {q : Query} {result : QueryResult} {collection : Timer},
    s.orders.slot = .held q result collection → P s → P (s.setOrders { s.orders with slot := .free }) :=
    by exact fun _ h => h

/-- The entry writes of a load chain and of the power-on load. -/
structure KeptByWrites (P : State → Prop) : Prop extends KeptByRuntime P, KeptByLamps P where
  node : ∀ {s : State} {i : Fin 64} {bytes : List Byte} {entry : Option Node}, nodeWrite s i bytes = some entry → P s →
    P (s.setNodes (s.nodes.set i entry)) := by exact fun _ h => h
  filters : ∀ {s : State} (x : FilterTable), P s → P (s.setFilters x) := by exact fun _ h => h
  standby : ∀ {s : State} (x : BankStore), x.active = s.banks.active → x.pendingSwap = s.banks.pendingSwap → P s →
    P (s.setBanks x) := by exact fun _ _ _ h => h
  setting : ∀ {s : State} {index : Nat} {b : Byte} {x : Settings} {home : Option Timer},
    settingWrite s index b = some x →
    followMode index (s.setSettings x) = (s.setSettings x).setOrders { s.orders with home := home } → P s →
    P ((s.setSettings x).setOrders { s.orders with home := home }) := by exact fun _ _ h => h

/-- The control channel and its timers. -/
structure KeptByChannel (P : State → Prop) : Prop where
  ownerOrder : ∀ {s : State}, P s → P (noteOwnerOrder s)
  claim : ∀ {s : State}, s.loader.load = .done → P s → P (registerClaim s)
  drop : ∀ {s : State}, P s → P (dropClaim s)
  handOver : ∀ {s : State}, s.orders.claim.isSome = true → P s → P (passOwnership (otherSide s.orders.owner) s)
  goHome : ∀ {s : State}, P s → P (passOwnership .console s)
  noHandover : ∀ {s : State}, s.orders.handover.isSome = true →
    ¬ (s.orders.claim.isSome = true ∧ s.orders.chain.isNone = true) → P s → P (setHandover none s)
  openChain : ∀ {s : State} (c : LoadChain), s.loader.load = .done → P s → P (openChain c s)
  chain : ∀ {s : State} (c : LoadChain), s.orders.chain.isSome = true → P s →
    P (s.setOrders { s.orders with chain := some c })
  closeChain : ∀ {s : State}, P s → P (closeChain s)

/-- The Configuration Loader's own fields, and the defaults that a load begins with. -/
structure KeptByLoader (P : State → Prop) : Prop where
  loader : ∀ {s : State} (l : ConfigLoader), l.memory = s.loader.memory →
    (l.load = .loading → s.loader.load = .loading) → P s → P (s.setLoader l) := by exact fun _ _ _ h => h
  saved : ∀ {s : State} (how : SaveEnd) (snapshot : List Byte), P s → P (s.setLoader { s.loader with
    save := .idle, memory := (saveOutcome how snapshot s.loader.memory).1 }) := by exact fun _ _ h => h
  defaults : ∀ {s : State}, s.loader.load = .loading → P s → P (defaultParts s) := by exact fun _ h => h

/-- Every change that a command makes once time has moved on, but for the reservation of a console order. -/
structure Kept (P : State → Prop) : Prop extends KeptByResults P, KeptByCourse P, KeptByHeat P, KeptBySchedule P,
    KeptByDeckQueue P, KeptByWrites P, KeptByChannel P, KeptByLoader P where
  mailboxes : ∀ {s : State} (x : Vector (Vector Byte 8) 4), P s → P (s.setOrders { s.orders with mailboxes := x }) :=
    by exact fun _ h => h
  reset : ∀ {s : State}, P s → P (timingReset s)
  boardSends : ∀ {s : State} {t : Telegram} {rest : List Telegram} (line : Option Telegram) (busy : Option Timer),
    s.board.queue = t :: rest → P s → P (s.setBoard { s.board with queue := rest, line := line, busy := busy }) :=
    by exact fun _ _ _ h => h

/-! ### Announcements -/

section
variable {P : State → Prop}

theorem KeptByAnnouncing.offer (k : KeptByAnnouncing P) (t : Telegram) {s : State} (h : P s) : P (offer t s) :=
  offerAt_keeps (fun _ _ _ h admitted => k.admits admitted h) (fun _ x h => k.tally x h) (fun _ _ h => k.notices _ h) 2 t s h

theorem KeptByAnnouncing.raise (k : KeptByAnnouncing P) (kind : NoticeKind) {s : State} (h : P s) :
    P (raise kind s) := by
  unfold Machine.raise raiseWith
  split
  · exact h
  · dsimp only
    split
    · exact k.offer _ (k.notices _ h)
    · exact k.notices _ h

theorem KeptByAnnouncing.count (k : KeptByAnnouncing P) (e : TallyEvent) (lane : Option Lane) (station : Option Byte)
    {s : State} (h : P s) : P (count e lane station s) := by
  unfold Machine.count countWith
  dsimp only
  split
  · exact k.raise _ (k.tally _ h)
  · exact k.tally _ h

theorem KeptByAnnouncing.announceHeat (k : KeptByAnnouncing P) {s : State} (h : P s) : P (announceHeat s) :=
  k.raise _ (k.offer _ h)

theorem KeptByAnnouncing.offerEach (k : KeptByAnnouncing P) (telegram : State → Lane → Telegram) (lanes : List Lane)
    {s : State} (h : P s) : P (offerEach telegram lanes s) := by
  unfold Machine.offerEach
  induction lanes generalizing s with
  | nil => exact h
  | cons lane rest ih => exact ih (k.offer _ h)

end

/-! ### Runtime fields of the node table -/

theorem SameEntries.refl (x : NodeTable) : SameEntries x x := fun _ => rfl

theorem sameEntries_modifyAt (x : NodeTable) (i : Fin 64) (f : NodeRuntime → NodeRuntime) :
    SameEntries (modifyAt x i (Option.map fun n => { n with run := f n.run })) x := by
  intro j
  simp only [Fin.getElem_fin, modifyAt_getElem]
  split
  · cases x[j.val] <;> rfl
  · rfl

theorem sameEntries_mapAll (x : NodeTable) (f : Node → Node) (keeps : ∀ n, (f n).entry = n.entry) :
    SameEntries (mapAll x (Option.map f)) x := by
  intro i
  simp only [Fin.getElem_fin, mapAll_getElem]
  cases x[i.val] with
  | none => rfl
  | some n => exact congrArg some (keeps n)

theorem sameEntries_changeRuntime (x : NodeTable) (station : Byte) (f : NodeRuntime → NodeRuntime) :
    SameEntries (changeRuntime x station f) x := by
  unfold changeRuntime
  split
  · exact sameEntries_modifyAt x _ f
  · exact SameEntries.refl x

section
variable {P : State → Prop}

theorem KeptByAnnouncing.setNodesReporting (k : KeptByAnnouncing P) {nodes : NodeTable} {s : State}
    (h : P (s.setNodes nodes)) : P (setNodesReporting nodes s) := by
  unfold Machine.setNodesReporting
  dsimp only
  split
  · exact h
  · split
    · exact k.raise _ h
    · exact k.notices _ h

theorem KeptByRuntime.boostLane (k : KeptByRuntime P) (lane : Lane) {s : State} (h : P s) : P (boostLane lane s) :=
  k.nodes _ (sameEntries_mapAll _ _ fun n => by dsimp only; split <;> rfl) h

theorem KeptByRuntime.clearBoosts (k : KeptByRuntime P) {s : State} (h : P s) : P (clearBoosts s) :=
  k.nodes _ (sameEntries_mapAll _ _ fun _ => rfl) h

theorem KeptByRuntime.setContact (k : KeptByRuntime P) (i : Fin 64) (c : ContactState) {s : State} (h : P s) :
    P (setContact i c s) :=
  k.nodes _ (sameEntries_modifyAt s.nodes i fun r => { r with contact := c }) h

theorem KeptByRuntime.setRest (k : KeptByRuntime P) (i : Fin 64) (f : Nat → Nat) {s : State} (h : P s) :
    P (setRest i f s) :=
  k.nodes _ (sameEntries_modifyAt s.nodes i fun r => { r with restCount := f r.restCount }) h

theorem KeptByRuntime.takeMiss (k : KeptByRuntime P) (station : Byte) (failedCheck : Bool) {s : State} (h : P s) :
    P (takeMiss station failedCheck s) := by
  have missed := k.count .pollMiss (stationLane s.nodes station) (some station) h
  unfold Machine.takeMiss
  cases failedCheck with
  | true => exact k.setNodesReporting (k.nodes _ (sameEntries_changeRuntime _ _ _) (k.count _ _ _ missed))
  | false => exact k.setNodesReporting (k.nodes _ (sameEntries_changeRuntime _ _ _) missed)

theorem KeptByRuntime.notePresent (k : KeptByRuntime P) (station : Byte) {s : State} (h : P s) :
    P (notePresent station s) := by
  have present := k.setNodesReporting (k.nodes (changeRuntime s.nodes station runtimeAfterAnswer)
    (sameEntries_changeRuntime _ _ _) h)
  unfold Machine.notePresent
  dsimp only
  split
  · exact k.raise _ present
  · exact present

end

/-! ### Lamps -/

/-- A LAMP is always admitted to the deck command queue (R19, R20). -/
theorem insertDeck_lamp (lane : Lane) (t : Telegram) (queue : List DeckEntry) :
    insertDeck ⟨.lamp lane, t⟩ queue = some (withLamp ⟨.lamp lane, t⟩ queue) := by
  unfold insertDeck withLamp
  dsimp only
  split <;> rfl

theorem produceLamp_eq (lane : Lane) (station : Byte) (lit : Bool) (s : State) : produceLamp lane station lit s =
    (setLamp lane { s.lamps.records[lane] with produced := lit, recorded := some station } s).setDeck { s.deck with
      queue := withLamp ⟨.lamp lane, lampTelegram s station lit⟩ s.deck.queue } := by
  unfold produceLamp offerDeck
  rw [insertDeck_lamp]
  rfl

theorem setLamp_record (lane other : Lane) (r : LampRecord) (s : State) :
    (setLamp lane r s).lamps.records[other] = if lane = other then r else s.lamps.records[other] := by
  simp only [setLamp, State.setLamps_lamps, Fin.getElem_fin, Vector.getElem_set, Fin.ext_iff]

theorem setLamp_recorded {lane : Lane} {r : LampRecord} {s : State}
    (same : r.recorded = s.lamps.records[lane].recorded) (other : Lane) :
    (setLamp lane r s).lamps.records[other].recorded = s.lamps.records[other].recorded := by
  rw [setLamp_record]
  split
  · next here => rw [← here]; exact same
  · rfl

section
variable {P : State → Prop}

theorem KeptByLamps.setLamp (k : KeptByLamps P) {lane : Lane} {r : LampRecord} {s : State}
    (same : r.recorded = s.lamps.records[lane].recorded) (h : P s) : P (setLamp lane r s) :=
  k.lamps _ (setLamp_recorded same) h

theorem KeptByLamps.produceLamp (k : KeptByLamps P) {lane : Lane} {station : Byte} (lit : Bool) {s : State}
    (fits : LampsQueuedFor s lane station ∨ s.lamps.records[lane].recorded = some station) (h : P s) :
    P (produceLamp lane station lit s) := by
  rw [produceLamp_eq]
  exact k.produce _ _ rfl rfl fits h

theorem KeptByLamps.darkenLamp (k : KeptByLamps P) (lane : Lane) {s : State} (h : P s) : P (darkenLamp lane s) := by
  unfold Machine.darkenLamp
  dsimp only
  split
  · split
    · next station recorded => exact k.produceLamp false (.inr recorded) h
    · next => exact k.setLamp (r := { s.lamps.records[lane] with produced := false }) rfl h
  · exact h

theorem KeptByLamps.evaluateLane (k : KeptByLamps P) (lane : Lane) {s : State} (h : P s) : P (evaluateLane lane s) := by
  have left : P (leaveOldLamp lane s) := by
    unfold leaveOldLamp
    split
    · exact h
    · exact k.darkenLamp lane h
  unfold Machine.evaluateLane followPattern
  generalize leaveOldLamp lane s = u at left
  split
  · exact left
  · next station _ =>
    split
    · next wanted =>
      refine k.produceLamp _ (.inl fun e mem is => ?_) left
      simp only [Bool.and_eq_true, Bool.not_eq_true', lampHeldBack, List.any_eq_false] at wanted
      simpa [isLampOf, is] using wanted.2 e mem
    · exact left

theorem KeptByLamps.evaluateAssigned (k : KeptByLamps P) (due : Fin 3 → Bool) {s : State} (h : P s) :
    P (evaluateAssigned due s) := by
  unfold Machine.evaluateAssigned
  generalize allLanes = lanes
  induction lanes generalizing s with
  | nil => exact h
  | cons lane rest ih =>
    refine ih ?_
    dsimp only
    split
    · split
      · exact k.evaluateLane lane h
      · exact h
    · exact h

theorem KeptByLamps.handOffLamps (k : KeptByLamps P) {s : State} (h : P s) : P (handOffLamps s) := by
  unfold Machine.handOffLamps
  generalize allLanes = lanes
  induction lanes generalizing s with
  | nil => exact h
  | cons lane rest ih =>
    refine ih ?_
    dsimp only
    split
    · exact h
    · exact k.evaluateLane lane (k.setLamp rfl h)

theorem KeptByLamps.clearLamps (k : KeptByLamps P) {s : State} (h : P s) : P (clearLamps s) := by
  have cleared : P (s.setLamps { s.lamps with
      records := mapAll s.lamps.records fun r => { r with assignment := none } }) :=
    k.lamps _ (fun lane => by simp) h
  unfold Machine.clearLamps
  generalize s.setLamps _ = u at cleared
  generalize allLanes = lanes
  induction lanes generalizing u with
  | nil => exact cleared
  | cons lane rest ih => exact ih _ (k.darkenLamp lane cleared)

theorem KeptByLamps.noteLampSent (k : KeptByLamps P) (e : DeckEntry) {s : State} (h : P s) : P (noteLampSent e s) := by
  unfold Machine.noteLampSent
  split
  · exact k.setLamp rfl h
  · exact h

end

end Sys2Proof.Machine
end
section
/-! What the heat's own operations keep: results, heat control, lane judging, intake and the poll schedule. -/

namespace Sys2Proof.Machine

/-! ### Lane records -/

theorem SameCourse.refl (r : LaneRecord) : SameCourse r r := ⟨rfl, rfl, rfl, rfl⟩

theorem SameCourse.trans {r r' r'' : LaneRecord} (a : SameCourse r r') (b : SameCourse r' r'') : SameCourse r r'' :=
  ⟨b.state.trans a.state, b.splits.trans a.splits, b.count.trans a.count, b.samples.trans a.samples⟩

theorem setLane_lane (lane other : Lane) (r : LaneRecord) (s : State) :
    (setLane lane r s).lanes[other] = if lane = other then r else s.lanes[other] := by
  simp only [setLane, State.setLanes_lanes, Fin.getElem_fin, Vector.getElem_set, Fin.ext_iff]

@[simp] theorem setLane_lane_self (lane : Lane) (r : LaneRecord) (s : State) :
    (setLane lane r s).lanes[lane.val] = r := by simp [setLane]

theorem settleAwaiting_course (r : LaneRecord) : SameCourse r (settleAwaiting r) := by
  unfold settleAwaiting
  split <;> exact ⟨rfl, rfl, rfl, rfl⟩

section
variable {P : State → Prop}

theorem KeptByRecords.setLane (k : KeptByRecords P) {lane : Lane} {r : LaneRecord} {s : State}
    (same : SameCourse s.lanes[lane] r) (h : P s) : P (setLane lane r s) := by
  refine k.records _ (fun other => ?_) h
  simp only [Fin.getElem_fin, Vector.getElem_set]
  split
  · next here => obtain rfl := Fin.ext here; exact same
  · exact SameCourse.refl _

/-! ### Results -/

theorem KeptByResults.runPlacing (k : KeptByResults P) {s : State} (h : P s) : P (runPlacing s) := by
  refine k.results _ (k.records _ (fun lane => ?_) h)
  simp only [Fin.getElem_fin, mapAll_getElem]
  exact ⟨rfl, rfl, rfl, rfl⟩

theorem KeptByResults.placeProvisionally (k : KeptByResults P) (finisher : Option Lane) {s : State} (h : P s) :
    P (placeProvisionally finisher s) := by
  have placed := k.runPlacing h
  unfold Machine.placeProvisionally
  refine k.handOffLamps (k.offerEach _ _ ?_)
  cases finisher with
  | none => exact placed
  | some lane => exact k.offer _ placed

theorem KeptByResults.settleLane (k : KeptByResults P) (lane : Lane) {s : State} (h : P s) : P (settleLane s lane) := by
  have chosen (r : LaneRecord) : SameCourse r (chooseOfficial r) := by
    unfold chooseOfficial
    split <;> exact ⟨rfl, rfl, rfl, rfl⟩
  unfold Machine.settleLane
  dsimp only
  split
  · split
    · exact k.raise _ (k.setLane ((chosen _).trans ⟨rfl, rfl, rfl, rfl⟩) h)
    · exact k.setLane (chosen _) h
  · exact h

theorem KeptByResults.closeResults (k : KeptByResults P) {s : State} (h : P s) : P (closeResults s) := by
  have settled : P (allLanes.foldl Machine.settleLane s) := by
    generalize allLanes = lanes
    induction lanes generalizing s with
    | nil => exact h
    | cons lane rest ih => exact ih (k.settleLane lane h)
  exact k.handOffLamps (k.offerEach _ _ (k.results _ (k.runPlacing settled)))

theorem KeptByResults.reviseResults (k : KeptByResults P) {s : State} (h : P s) : P (reviseResults s) :=
  k.handOffLamps (k.offerEach _ _ (k.results _ (k.runPlacing h)))

end

/-- The heat is in a state. -/
def HeatIs (state : HeatState) (s : State) : Prop := s.heat.state = state

/-- The heat state is touched by no work of the Result Unit or on a record. -/
theorem heatIs_keptByResults (state : HeatState) : KeptByResults (HeatIs state) where

/-! ### Heat control -/

theorem boostLane_entries (lane : Lane) (s : State) : SameEntries (boostLane lane s).nodes s.nodes := by
  unfold boostLane
  exact sameEntries_mapAll _ _ fun n => by dsimp only; split <;> rfl

theorem State.setNodes_setNodes (s : State) (x y : NodeTable) : (s.setNodes x).setNodes y = s.setNodes y := rfl

/-- Boosting some lanes changes the node table alone. -/
theorem boostLanes_eq (lanes : List Lane) (s : State) :
    ∃ nodes, SameEntries nodes s.nodes ∧ lanes.foldl (fun s lane => boostLane lane s) s = s.setNodes nodes := by
  induction lanes generalizing s with
  | nil => exact ⟨s.nodes, SameEntries.refl _, rfl⟩
  | cons lane rest ih =>
    obtain ⟨nodes, same, eq⟩ := ih (boostLane lane s)
    refine ⟨nodes, fun i => (same i).trans (boostLane_entries lane s i), ?_⟩
    rw [List.foldl_cons, eq]
    exact State.setNodes_setNodes s _ nodes

section
variable {P : State → Prop}

theorem Kept.startHeat (k : Kept P) {start : Tick} {s : State}
    (state : s.heat.state = .armed ∨ s.heat.state = .marks) (h : P s) : P (startHeat start s) := by
  have lanes : ∃ nodes, SameEntries nodes s.nodes ∧ startLanes start (s.setHeat ⟨.running, some start⟩) =
      ((s.setHeat ⟨.running, some start⟩).setLanes (mapAll s.lanes (startRecord start))).setNodes nodes := by
    unfold startLanes
    dsimp only
    split
    · exact boostLanes_eq _ ((s.setHeat ⟨.running, some start⟩).setLanes (mapAll s.lanes (startRecord start)))
    · exact ⟨s.nodes, SameEntries.refl _, rfl⟩
  obtain ⟨nodes, same, eq⟩ := lanes
  unfold Machine.startHeat
  rw [eq]
  refine k.announceHeat ?_
  exact k.nodes (s := ((s.setHeat ⟨.running, some start⟩).setLanes (mapAll s.lanes (startRecord start))).setClock _)
    nodes same (k.start start _ _ _ _ state (fun lane => by simp) h)

theorem Kept.enterClosing (k : Kept P) {s : State} (running : s.heat.state = .running) (h : P s) : P (enterClosing s) :=
  k.announceHeat (k.closing _ running h)

theorem Kept.testEndOfSwimming (k : Kept P) {s : State} (h : P s) : P (testEndOfSwimming s) := by
  unfold Machine.testEndOfSwimming
  split
  · next ends => exact k.enterClosing ends.1 h
  · exact h

theorem KeptByHeat.startResultHold (k : KeptByHeat P) {s : State} (closed : s.heat.state = .closed) (h : P s) :
    P (startResultHold s) := by
  unfold Machine.startResultHold
  split
  · next pending => exact k.hold _ closed pending h
  · exact h

theorem Kept.enterClosed (k : Kept P) {s : State} (closing : s.heat.state = .closing)
    (window : s.clock.buttonWindow = none) (h : P s) : P (enterClosed s) := by
  have settled := k.closed closing window h
  have stays := heatIs_keptByResults .closed
  have closed : HeatIs .closed ((setHeatState .closed (s.setClock { s.clock with clockStep := none })).setLanes
    (mapAll s.lanes closeRecord)) := rfl
  exact k.startResultHold (stays.closeResults (stays.announceHeat (stays.clearBoosts closed))) (k.closeResults (k.announceHeat (k.clearBoosts settled)))

/-- Boosts are cleared the same before and behind the change of the heat state. -/
theorem setHeatState_clearBoosts (state : HeatState) (s : State) :
    setHeatState state (clearBoosts s) = clearBoosts (setHeatState state s) := rfl

theorem Kept.swapBanks (k : Kept P) {s : State} (h : P s) : P (swapBanks s) := by
  unfold Machine.swapBanks
  dsimp only
  rw [setHeatState_clearBoosts]
  exact k.clearLamps (k.announceHeat (k.clearBoosts (k.swap h)))

theorem Kept.abortHeat (k : Kept P) {s : State} (h : P s) : P (abortHeat s) :=
  k.announceHeat (k.clearLamps (k.clearBoosts (k.abort h)))

theorem Kept.clearHeat (k : Kept P) {s : State} (state : s.heat.state = .armed ∨ s.heat.state = .closed) (h : P s) :
    P (clearHeat s) :=
  k.announceHeat (k.clearLamps (k.clear state h))

theorem Kept.takeMarks (k : Kept P) (station : Byte) {s : State} (h : P s) : P (takeMarks station s) := by
  unfold Machine.takeMarks
  split
  · next armed => exact k.announceHeat (k.marks armed h)
  · exact k.count _ _ _ h

theorem Kept.takeStart (k : Kept P) (tick : Tick) (station : Byte) {s : State} (h : P s) :
    P (takeStart tick station s) := by
  unfold Machine.takeStart
  split
  · next state => exact k.startHeat state h
  · exact k.count _ _ _ h

theorem Kept.takeRecall (k : Kept P) (tick : Tick) (station : Byte) {s : State} (h : P s) :
    P (takeRecall tick station s) := by
  unfold Machine.takeRecall
  split
  · next marks => exact k.announceHeat (k.recallMarks marks h)
  · next running =>
    split
    · exact k.announceHeat (k.clearLamps (k.clearBoosts (k.recallStart running h)))
    · exact k.count _ _ _ h
  · exact k.count _ _ _ h

end

/-! ### Lane judging -/

section
variable {P : State → Prop}

theorem KeptByRecords.judgeExchange (k : KeptByRecords P) (lane : Lane) (number : Nat) (release touch : Tick)
    (late : Bool) {s : State} (h : P s) : P (judgeExchange lane number release touch late s) := by
  have judged (x : Exchange) (late : Bool) : P (Machine.setLane lane
      { s.lanes[lane] with exchanges := s.lanes[lane].exchanges ++ [x], late := late } s) :=
    k.setLane ⟨rfl, rfl, rfl, rfl⟩ h
  unfold Machine.judgeExchange
  dsimp only
  split
  · exact k.raise _ (judged _ _)
  · exact judged _ _

theorem KeptByRecords.handleExchange (k : KeptByRecords P) (lane : Lane) (length : Nat) (touch : Option (Tick × Bool))
    {s : State} (h : P s) : P (handleExchange lane length touch s) := by
  have settled := settleAwaiting_course s.lanes[lane]
  unfold Machine.handleExchange
  dsimp only
  split
  · exact k.setLane (settled.trans ⟨rfl, rfl, rfl, rfl⟩) h
  · split
    · exact k.judgeExchange _ _ _ _ _ (k.setLane (settled.trans ⟨rfl, rfl, rfl, rfl⟩) h)
    · exact k.setLane (settled.trans ⟨rfl, rfl, rfl, rfl⟩) h

end

/-- A lane swims, with some lengths behind it. -/
def SwimsAt (lane : Lane) (n : Nat) (s : State) : Prop := s.lanes[lane].state = .swimming ∧ s.lanes[lane].lengthCount = n

/-- The course of a lane is touched by no work on a record beside it. -/
theorem swimsAt_keptByRecords (lane : Lane) (n : Nat) : KeptByRecords (SwimsAt lane n) where
  records _ same h := ⟨(same lane).state.trans h.1, (same lane).count.trans h.2⟩

section
variable {P : State → Prop}

theorem KeptByRecords.exchanged (k : KeptByRecords P) (lane : Lane) (n : Nat) (touch : Option (Tick × Bool)) {s : State}
    (h : P s) : P (if isExchangeLength s.head n then Machine.handleExchange lane n touch s else s) := by
  split
  · exact k.handleExchange _ _ _ h
  · exact h

theorem KeptByRecords.reportFinalLength (k : KeptByRecords P) (lane : Lane) (n : Nat) {s : State} (h : P s) :
    P (reportFinalLength lane n s) := by
  unfold Machine.reportFinalLength
  split
  · exact k.boostLane lane h
  · exact h

/-- The state with a length of a lane added to its record, before anything follows from it. -/
def lengthRecorded (lane : Lane) (n : Nat) (time touch : Option Int) (late : Bool) (s : State) : State :=
  setLane lane { s.lanes[lane] with
    splits := s.lanes[lane].splits ++ [⟨n, time⟩], lengthCount := n, lastTouch := touch, late := late } s

theorem KeptByCourse.lengthRecorded (k : KeptByCourse P) {lane : Lane} {n : Nat} (time touch : Option Int) (late : Bool)
    {s : State} (swims : SwimsAt lane n s) (h : P s) : P (lengthRecorded lane (n + 1) time touch late s) := by
  obtain ⟨_, rfl⟩ := swims
  exact k.split lane time touch late h

theorem SwimsAt.lengthRecorded {lane : Lane} {n : Nat} (time touch : Option Int) (late : Bool) {s : State}
    (swims : SwimsAt lane n s) : SwimsAt lane (n + 1) (lengthRecorded lane (n + 1) time touch late s) := by
  unfold SwimsAt at swims
  simpa [SwimsAt, Machine.lengthRecorded] using swims.1

/-- An inferred length as its steps: recorded, announced, its exchange handled, the final length reported. -/
theorem inferLength_eq (lane : Lane) (n : Nat) (s : State) : inferLength lane n s =
    let recorded := lengthRecorded lane n none s.lanes[lane].lastTouch s.lanes[lane].late s
    let announced := offer (splitTelegram recorded lane n none false) recorded
    reportFinalLength lane n
      (if isExchangeLength announced.head n then handleExchange lane n none announced else announced) := rfl

/-- The state when an accepted touch has been recorded, counted and announced, and its exchange handled. -/
def touchHandled (lane : Lane) (n : Nat) (tick : Tick) (time : Int) (late : Bool) (station : Byte) (s : State) : State :=
  let recorded := lengthRecorded lane n (some time) (some time) (s.lanes[lane].late || late) s
  let counted := count .touchAccepted (some lane) (some station) recorded
  let announced := offer (splitTelegram counted lane n (some time) late) counted
  if isExchangeLength announced.head n then handleExchange lane n (some (tick, late)) announced else announced

/-- An accepted touch then finishes its lane, or reports the final length. -/
theorem acceptTouch_eq (lane : Lane) (n : Nat) (tick : Tick) (time : Int) (late : Bool) (station : Byte) (s : State) :
    acceptTouch lane n tick time late station s =
    if n = (touchHandled lane n tick time late station s).head.lengths then
      finishLane lane time (touchHandled lane n tick time late station s)
    else reportFinalLength lane n (touchHandled lane n tick time late station s) := rfl

theorem KeptByRecords.touchHandled (k : KeptByRecords P) {lane : Lane} {n : Nat} {tick : Tick} {time : Int} {late : Bool}
    {station : Byte} {s : State}
    (h : P (Machine.lengthRecorded lane n (some time) (some time) (s.lanes[lane].late || late) s)) :
    P (touchHandled lane n tick time late station s) :=
  k.exchanged _ _ _ (k.offer _ (k.count _ _ _ h))

theorem KeptByRecords.inferLength (k : KeptByRecords P) {lane : Lane} {n : Nat} {s : State}
    (h : P (Machine.lengthRecorded lane n none s.lanes[lane].lastTouch s.lanes[lane].late s)) :
    P (inferLength lane n s) := by
  rw [inferLength_eq]
  exact k.reportFinalLength _ _ (k.exchanged _ _ _ (k.offer _ h))

theorem Kept.finishLane (k : Kept P) {lane : Lane} (time : Int) {s : State} (swims : s.lanes[lane].state = .swimming)
    (h : P s) : P (finishLane lane time s) := by
  refine k.testEndOfSwimming (k.placeProvisionally _ (k.boostLane lane (k.finish lane _ swims ?_ h)))
  obtain ⟨_, splits, count, samples⟩ := settleAwaiting_course s.lanes[lane]
  exact ⟨rfl, splits, count, samples⟩

theorem Kept.acceptTouch (k : Kept P) {lane : Lane} {n : Nat} (tick : Tick) (time : Int) (late : Bool) (station : Byte)
    {s : State} (swims : SwimsAt lane n s) (h : P s) : P (acceptTouch lane (n + 1) tick time late station s) := by
  have kept : P (touchHandled lane (n + 1) tick time late station s) := k.touchHandled (k.lengthRecorded _ _ _ swims h)
  have still : SwimsAt lane (n + 1) (touchHandled lane (n + 1) tick time late station s) :=
    (swimsAt_keptByRecords lane (n + 1)).touchHandled (swims.lengthRecorded _ _ _)
  rw [acceptTouch_eq]
  split
  · exact k.finishLane time still.1 kept
  · exact k.reportFinalLength _ _ kept

/-- A touch candidate that is not rejected is of a swimming lane. -/
theorem judgeTouch_swims {s : State} {lane : Lane} {poolEnd : PoolEnd} {tick : Tick} {v : TouchVerdict}
    (judged : judgeTouch s lane poolEnd tick = v) (taken : ∀ why, v ≠ .rejected why) :
    s.lanes[lane].state = .swimming := by
  subst judged
  refine Classical.byContradiction fun other => ?_
  unfold judgeTouch at taken
  cases race : s.raceTime tick with
  | none => exact taken .touchIdle (by simp [race])
  | some time => exact taken .touchIdle (by simp only [race]; exact if_pos other)

theorem Kept.takeTouch (k : Kept P) (lane : Lane) (poolEnd : PoolEnd) (tick : Tick) (late : Bool) (station : Byte)
    {s : State} (h : P s) : P (takeTouch lane poolEnd tick late station s) := by
  unfold Machine.takeTouch
  dsimp only
  split
  · exact k.count _ _ _ h
  · next judged => exact k.acceptTouch _ _ _ _ ⟨judgeTouch_swims judged nofun, rfl⟩ h
  · next judged =>
    have swims : SwimsAt lane s.lanes[lane].lengthCount s := ⟨judgeTouch_swims judged nofun, rfl⟩
    exact k.acceptTouch _ _ _ _ ((swimsAt_keptByRecords lane _).inferLength (swims.lengthRecorded _ _ _))
      (k.inferLength (k.lengthRecorded _ _ _ swims h))

theorem Kept.takeRelease (k : Kept P) (lane : Lane) (tick : Tick) (late : Bool) (station : Byte) {s : State} (h : P s) :
    P (takeRelease lane tick late station s) := by
  have stray := k.count .releaseStray (some lane) (some station) h
  have dup := k.count .releaseDup (some lane) (some station) h
  have falseStart : P (takeFalseStart lane tick late station s) := by
    unfold takeFalseStart
    dsimp only
    split
    · exact dup
    · exact k.raise _ (k.setLane ⟨rfl, rfl, rfl, rfl⟩ h)
  have reaction (time : Int) : P (takeReaction lane time late s) := by
    have taken (early late : Bool) : P (setLane lane
        { s.lanes[lane] with reaction := some time, early := early, late := late } s) :=
      k.setLane ⟨rfl, rfl, rfl, rfl⟩ h
    unfold takeReaction
    dsimp only
    split
    · exact k.raise _ (taken _ _)
    · exact taken _ _
  have exchange : P (takeExchangeRelease lane tick late station s) := by
    unfold takeExchangeRelease
    dsimp only
    split
    · exact k.judgeExchange _ _ _ _ _ (k.setLane ⟨rfl, rfl, rfl, rfl⟩ h)
    · split
      · exact dup
      · exact k.setLane ⟨rfl, rfl, rfl, rfl⟩ h
  have race (time : Int) : P (takeRaceRelease lane tick time late station s) := by
    unfold takeRaceRelease
    dsimp only
    split
    · split
      · exact reaction time
      · exact dup
    · split
      · exact exchange
      · exact stray
  unfold Machine.takeRelease
  split
  · exact h
  · split
    · exact falseStart
    · exact stray
  iterate 2
    split
    · split
      · exact race _
      · exact stray
    · exact stray
  iterate 2 exact stray

theorem Kept.takePress (k : Kept P) (lane : Lane) (poolEnd : PoolEnd) (position : Nat) (tick : Tick) (late : Bool)
    (station : Byte) {s : State} (h : P s) : P (takePress lane poolEnd position tick late station s) := by
  unfold Machine.takePress
  split
  · exact k.count _ _ _ h
  · next time accepted =>
    refine k.count _ _ _ (k.sample lane position time _ (fun x mem same => ?_) h)
    have dup : (s.lanes[lane].samples.any fun x => x.position == position) = true :=
      List.any_eq_true.mpr ⟨x, mem, by simpa using same⟩
    unfold judgePress at accepted
    dsimp only at accepted
    split at accepted
    · exact nomatch accepted
    · repeat' split at accepted
      all_goals exact nomatch accepted

/-! ### Intake -/

theorem Kept.handToJudge (k : Kept P) (e : NodeEntry) (kind : NodeKind) (code : ItemCode) (event : Tick) (late : Bool)
    {s : State} (h : P s) : P (handToJudge e kind code event late s) := by
  unfold Machine.handToJudge
  split
  · exact k.takeMarks _ h
  · exact k.takeStart _ _ h
  · exact k.takeRecall _ _ h
  · exact k.takeRelease _ _ _ _ h
  · exact k.takeTouch _ _ _ _ _ h
  · exact k.takePress _ _ _ _ _ _ h
  · exact h

theorem Kept.filterItem (k : Kept P) (e : NodeEntry) (kind : NodeKind) (code : ItemCode) (item : ReportItem)
    (arrival : Tick) {s : State} (h : P s) : P (filterItem e kind code item arrival s) := by
  have stamped : P (if item.age == Config.saturatedAge then count .lateStamp e.lane (some e.station) s else s) := by
    split
    · exact k.count _ _ _ h
    · exact h
  unfold Machine.filterItem
  dsimp only
  split
  · exact k.handToJudge _ _ _ _ _ stamped
  · exact k.handToJudge _ _ _ _ _ (k.offer _ stamped)
  · exact k.offer _ stamped
  · exact h

theorem Kept.takeReport (k : Kept P) (station : Byte) (arrival : Tick) (payload : List Byte) {s : State} (h : P s) :
    P (takeReport station arrival payload s) := by
  have entryItem (i : Fin 64) (n : Node) (item : ReportItem) (code : ItemCode) {s : State} (h : P s) :
      P (takeEntryItem i n item code arrival s) := by
    unfold takeEntryItem
    dsimp only
    split
    · exact k.count _ _ _ h
    · split
      · split
        · exact k.filterItem _ _ _ _ _ (k.setContact _ _ h)
        · exact k.setContact _ _ h
      · exact k.filterItem _ _ _ _ _ h
  have item (item : ReportItem) {s : State} (h : P s) : P (takeItem station arrival s item) := by
    unfold takeItem
    split
    · exact k.count _ _ _ h
    · split
      · exact k.count _ _ _ h
      · split
        · exact h
        · exact entryItem _ _ _ _ h
  unfold Machine.takeReport
  generalize itemsOf payload = items
  induction items generalizing s with
  | nil => exact h
  | cons x rest ih => exact ih (item x h)

/-! ### The poll schedule -/

theorem KeptBySchedule.walkNormal (k : KeptBySchedule P) (indices : List (Fin 64)) {s : State} (h : P s) :
    P (walkNormal indices s).1 := by
  have passed (i : Fin 64) {s : State} (h : P s) : P (passIndex i s) := k.schedule _ rfl rfl h
  induction indices generalizing s with
  | nil => exact h
  | cons i rest ih =>
    unfold Machine.walkNormal
    split
    · exact ih (passed i h)
    · exact ih (k.setRest _ _ (passed i h))
    · dsimp only
      split
      · dsimp only
        split
        · exact k.setRest _ _ (passed i h)
        · exact passed i h
      · exact passed i h

theorem KeptBySchedule.nextVisit (k : KeptBySchedule P) {s : State} (h : P s) : P (nextVisit s).1 := by
  have begun {s : State} (h : P s) : P (beginRound s) := k.schedule _ rfl rfl h
  have normal {s : State} (h : P s) : P (nextNormal s).1 := by
    have walked := k.walkNormal (roundRest s) h
    unfold nextNormal
    split
    · next s' i walk => rwa [walk] at walked
    · next s' walk =>
      rw [walk] at walked
      split
      · have again := k.walkNormal nodeIndices (begun walked)
        split
        · next s'' i walk' => rwa [walk'] at again
        · next s'' walk' => rw [walk'] at again; exact begun again
      · exact begun walked
  have visit {s : State} (h : P s) : P (match nextNormal s with
      | (s', some i) =>
        (noteVisit i (s'.setDeck { s'.deck with normalCount := s'.deck.normalCount + 1 }), some i)
      | (s', none) => (s', none)).1 := by
    have chosen := normal h
    split
    · next s' i next =>
      rw [next] at chosen
      exact k.schedule _ rfl rfl (k.schedule _ rfl rfl chosen)
    · next s' next => rwa [next] at chosen
  unfold Machine.nextVisit
  dsimp only
  split
  · split
    · exact k.schedule _ rfl rfl (k.schedule _ rfl rfl h)
    · exact visit (k.schedule _ rfl rfl h)
  · exact visit h

theorem KeptBySchedule.sendPoll (k : KeptBySchedule P) (i : Fin 64) {s : State} (h : P s) : P (sendPoll i s) := by
  unfold Machine.sendPoll
  split
  · exact h
  · exact k.schedule _ rfl rfl h

theorem Kept.sendHead (k : Kept P) {s : State} (h : P s) : P (sendHead s) := by
  unfold Machine.sendHead
  split
  · exact h
  · next queue => exact k.noteLampSent _ (k.sends _ queue h)

end

end Sys2Proof.Machine
end
section
/-! What the orders, the start-up and the commands keep. -/

namespace Sys2Proof.Machine

/-! ### Entry writes and load chains -/

section
variable {P : State → Prop}

theorem KeptByWrites.writePattern (k : KeptByWrites P) {index : Nat} {bytes : List Byte} {s s' : State}
    (written : writePattern index bytes s = some s') (h : P s) : P s' := by
  unfold Machine.writePattern at written
  split at written
  · obtain ⟨write, _, rfl⟩ := Option.map_eq_some_iff.mp written
    exact k.evaluateAssigned _ (k.lamps _ (fun _ => rfl) h)
  · exact nomatch written

/-- Replacing the standby bank leaves which bank is active and the pending swap (R57). -/
theorem setStandby_eq (b : Bank) (s : State) : ∃ x : BankStore, x.active = s.banks.active
    ∧ x.pendingSwap = s.banks.pendingSwap ∧ setStandby b s = s.setBanks x := by
  unfold setStandby
  split
  · exact ⟨{ s.banks with a := b }, rfl, rfl, rfl⟩
  · exact ⟨{ s.banks with b := b }, rfl, rfl, rfl⟩

theorem KeptByWrites.setStandby (k : KeptByWrites P) (b : Bank) {s : State} (h : P s) : P (setStandby b s) := by
  obtain ⟨x, active, pending, eq⟩ := setStandby_eq b s
  rw [eq]
  exact k.standby x active pending h

/-- A settings write can start or stop the home timer beside the settings (R156). -/
theorem followMode_eq (index : Nat) (x : Settings) (s : State) : ∃ home,
    followMode index (s.setSettings x) = (s.setSettings x).setOrders { s.orders with home := home } := by
  unfold followMode startHome
  repeat' split
  all_goals exact ⟨_, rfl⟩

theorem KeptByWrites.writeBank (k : KeptByWrites P) {index : Nat} {bytes : List Byte} {s s' : State}
    (written : writeBank index bytes s = some s') (h : P s) : P s' := by
  unfold Machine.writeBank at written
  split at written
  · obtain ⟨head, _, rfl⟩ := Option.map_eq_some_iff.mp written
    exact k.setStandby _ h
  · split at written
    · cases written; exact k.setStandby _ h
    · exact nomatch written

theorem KeptByWrites.writeNode (k : KeptByWrites P) {index : Nat} {bytes : List Byte} {s s' : State}
    (written : writeNode index bytes s = some s') (h : P s) : P s' := by
  unfold Machine.writeNode at written
  split at written
  · obtain ⟨entry, accepted, rfl⟩ := Option.map_eq_some_iff.mp written
    exact k.setNodesReporting (k.node accepted h)
  · exact nomatch written

theorem KeptByWrites.writeFilter (k : KeptByWrites P) {index : Nat} {bytes : List Byte} {s s' : State}
    (written : writeFilter index bytes s = some s') (h : P s) : P s' := by
  unfold Machine.writeFilter at written
  split at written
  · obtain ⟨entry, _, rfl⟩ := Option.map_eq_some_iff.mp written
    exact k.filters _ h
  · exact nomatch written

theorem KeptByWrites.writeNotice (k : KeptByWrites P) {index : Nat} {bytes : List Byte} {s s' : State}
    (written : writeNotice index bytes s = some s') (h : P s) : P s' := by
  unfold Machine.writeNotice at written
  split at written
  · cases written; exact k.notices _ h
  · exact nomatch written

theorem KeptByWrites.writeSetting (k : KeptByWrites P) {index : Nat} {bytes : List Byte} {s s' : State}
    (written : writeSetting index bytes s = some s') (h : P s) : P s' := by
  obtain ⟨x, accepted, rfl⟩ := Option.map_eq_some_iff.mp written
  obtain ⟨home, eq⟩ := followMode_eq index x s
  rw [eq]
  exact k.setting accepted eq h

theorem KeptByWrites.writeEntry (k : KeptByWrites P) {table : TableCode} {index : Nat} {bytes : List Byte}
    {s s' : State} (written : writeEntry table index bytes s = some s') (h : P s) : P s' := by
  cases table with
  | nodes => exact k.writeNode written h
  | filters => exact k.writeFilter written h
  | bank => exact k.writeBank written h
  | patterns => exact k.writePattern written h
  | notices => exact k.writeNotice written h
  | settings => exact k.writeSetting written h

theorem KeptByWrites.takeEntries (k : KeptByWrites P) (table : TableCode) (entries : List (List Byte)) {w : Written}
    (h : P w.state) : P (entries.foldl (takeEntry table) w).state := by
  induction entries generalizing w with
  | nil => exact h
  | cons bytes rest ih =>
    refine ih ?_
    unfold takeEntry
    split
    · exact h
    · split
      · next written => exact k.writeEntry written h
      · exact h

end

/-- A load chain is open. -/
def ChainOpen (s : State) : Prop := s.orders.chain.isSome = true

/-- No entry write opens or closes a load chain. -/
theorem chainOpen_keptByWrites : KeptByWrites ChainOpen where

section
variable {P : State → Prop}

theorem Kept.writeEntries (k : Kept P) (c : LoadChain) (entries : List (List Byte)) {s : State} (opened : ChainOpen s)
    (h : P s) : P (writeEntries c entries s).1 := by
  have written := k.takeEntries c.table entries (w := ⟨s, c.next, c.toCome, 0, 0, none, false⟩) h
  have still : ChainOpen _ := chainOpen_keptByWrites.takeEntries c.table entries
    (w := ⟨s, c.next, c.toCome, 0, 0, none, false⟩) opened
  unfold Machine.writeEntries
  dsimp only
  split
  · exact k.closeChain written
  · exact k.chain _ still written

theorem closeChain_loader (s : State) : (closeChain s).loader = s.loader := by
  unfold closeChain startHome startHandover setHandover
  repeat' split
  all_goals rfl

theorem Kept.orderTload (k : Kept P) (body : List Byte) {s : State} (loaded : s.loader.load = .done) (h : P s) :
    P (orderTload body s).1 := by
  have first : P (tloadFirst body s).1 := by
    have aborted : P (if s.orders.chain.isSome then Machine.closeChain s else s)
        ∧ (if s.orders.chain.isSome then Machine.closeChain s else s).loader.load = .done := by
      split
      · exact ⟨k.closeChain h, by rw [closeChain_loader]; exact loaded⟩
      · exact ⟨h, loaded⟩
    unfold tloadFirst
    dsimp only
    generalize (if s.orders.chain.isSome then Machine.closeChain s else s) = u at aborted
    obtain ⟨aborted, loaded⟩ := aborted
    split
    · exact aborted
    · split
      · exact aborted
      · split
        · exact aborted
        · split
          · exact aborted
          · exact k.writeEntries _ _ (show (some _).isSome = true from rfl) (k.openChain _ loaded aborted)
  have continuation : P (tloadContinuation body s).1 := by
    unfold tloadContinuation
    split
    · exact h
    · next old here =>
      have restarted : P (s.setOrders { s.orders with
          chain := some { old with gap := startTimer s.now s.now Config.chainGapSpan } }) :=
        k.chain _ (by rw [here]; rfl) h
      dsimp only
      split
      · exact restarted
      · split
        · exact restarted
        · exact k.writeEntries _ _ (show (some _).isSome = true from rfl) restarted
  unfold Machine.orderTload
  split
  · exact first
  · split
    · exact continuation
    · exact h

/-! ### The other orders -/

theorem Kept.orderMailw (k : Kept P) (side : Side) (body : List Byte) {s : State} (h : P s) :
    P (orderMailw side body s).1 := by
  unfold Machine.orderMailw
  split
  · exact h
  · dsimp only
    split
    · exact k.raise _ (k.mailboxes _ h)
    · exact k.mailboxes _ h

theorem Kept.orderNqry (k : Kept P) (body : List Byte) {s : State} (h : P s) : P (orderNqry body s).1 := by
  unfold Machine.orderNqry
  dsimp only
  split
  · exact h
  · split
    · next free =>
      split
      · exact k.asks _ _ free h
      · exact h
    · exact h
    · next held =>
      split
      · exact k.freed held h
      · exact h

theorem Kept.orderCrel (k : Kept P) (side : Side) {s : State} (h : P s) : P (orderCrel side s).1 := by
  unfold Machine.orderCrel
  dsimp only
  split
  · next own =>
    subst own
    split
    · exact h
    · split
      · next claim => exact k.handOver claim h
      · exact h
  · split
    · exact k.drop h
    · exact h

theorem Kept.orderArm (k : Kept P) {s : State} (h : P s) : P (orderArm s).1 := by
  unfold Machine.orderArm
  split
  · exact h
  · split
    · exact h
    · split
      · exact h
      · split
        · next running => exact k.pend (.inl running) h
        · next closing => exact k.pend (.inr closing) h
        · dsimp only
          exact k.swapBanks h

theorem Kept.orderEndh (k : Kept P) {s : State} (h : P s) : P (orderEndh s).1 := by
  unfold Machine.orderEndh
  split
  · next running =>
    dsimp only
    exact k.enterClosing running h
  all_goals exact h

theorem Kept.orderAbort (k : Kept P) {s : State} (h : P s) : P (orderAbort s).1 := by
  unfold Machine.orderAbort
  split
  · exact h
  · dsimp only
    exact k.abortHeat h

theorem Kept.orderClear (k : Kept P) {s : State} (h : P s) : P (orderClear s).1 := by
  unfold Machine.orderClear
  split
  · exact h
  · next armed =>
    dsimp only
    exact k.clearHeat (.inl armed) h
  · next closed =>
    dsimp only
    exact k.clearHeat (.inr closed) h
  all_goals exact h

theorem Kept.orderMark (k : Kept P) (body : List Byte) {s : State} (h : P s) : P (orderMark body s).1 := by
  have changed (lane : Lane) (dq : Bool) : P (changeDq lane dq s) := by
    have marked : P (setLane lane { s.lanes[lane] with dq := dq } s) := k.setLane ⟨rfl, rfl, rfl, rfl⟩ h
    unfold changeDq
    dsimp only
    split
    · exact k.reviseResults marked
    · split
      · exact k.testEndOfSwimming (k.placeProvisionally none marked)
      · exact k.placeProvisionally none marked
  unfold Machine.orderMark
  split
  · exact h
  · split
    · exact h
    · split
      · exact h
      · split
        · exact h
        · split
          · exact h
          · dsimp only
            exact changed _ _

theorem Kept.orderSrc (k : Kept P) (body : List Byte) {s : State} (h : P s) : P (orderSrc body s).1 := by
  unfold Machine.orderSrc
  split
  · exact h
  · exact h
  · next lane source _ _ =>
    have revised (time : Int) : P (Machine.reviseResults
        (setLane lane { s.lanes[lane] with official := some time, source := source } s)) :=
      k.reviseResults (k.setLane ⟨rfl, rfl, rfl, rfl⟩ h)
    dsimp only
    split
    · exact h
    · split
      · exact h
      · split
        · exact h
        · split
          · exact h
          · dsimp only
            exact revised _

theorem KeptByAnnouncing.tctlConfigure (k : KeptByAnnouncing P) (body : List Byte) {s : State} (h : P s) :
    P (tctlConfigure body s).1 := by
  unfold Machine.tctlConfigure
  split
  · exact h
  · split
    · exact h
    · exact k.tally _ h

theorem KeptByAnnouncing.tctlClearOverflow (k : KeptByAnnouncing P) (body : List Byte) {s : State} (h : P s) :
    P (tctlClearOverflow body s).1 := by
  unfold Machine.tctlClearOverflow
  split
  · exact k.tally _ h
  · split
    · exact h
    · exact k.tally _ h

theorem KeptByAnnouncing.orderTset (k : KeptByAnnouncing P) (body : List Byte) {s : State} (h : P s) :
    P (orderTset body s).1 := by
  unfold Machine.orderTset
  split
  · exact h
  · exact k.tally _ h

theorem KeptByAnnouncing.orderTctl (k : KeptByAnnouncing P) (body : List Byte) {s : State} (h : P s) :
    P (orderTctl body s).1 := by
  unfold Machine.orderTctl
  split
  · exact k.tctlConfigure body h
  · exact k.tally _ h
  · exact k.tally _ h
  · exact k.tally _ h
  · exact k.tctlClearOverflow body h
  · exact k.tally _ h
  · exact h

theorem KeptByLoader.orderSave (k : KeptByLoader P) {s : State} (h : P s) : P (orderSave s).1 := by
  unfold Machine.orderSave
  split
  · exact h
  · exact k.loader _ rfl id h

theorem orderLane_state (body : List Byte) (s : State) : (orderLane body s).1 = s := by
  unfold orderLane
  dsimp only
  repeat' split
  all_goals rfl

theorem orderTread_state (body : List Byte) (s : State) : (orderTread body s).1 = s := by
  unfold orderTread
  dsimp only
  repeat' split
  all_goals rfl

theorem orderTreadTally_state (body : List Byte) (s : State) : (orderTreadTally body s).1 = s := by
  unfold orderTreadTally
  dsimp only
  split <;> rfl

theorem orderMailr_state (body : List Byte) (s : State) : (orderMailr body s).1 = s := by
  unfold orderMailr
  split <;> rfl

theorem Kept.orderEffect (k : Kept P) (side : Side) (code : OrderCode) (body : List Byte) {s : State}
    (loaded : s.loader.load = .done) (h : P s) : P (orderEffect side code body s).1 := by
  cases code with
  | stat => exact h
  | lane => exact (orderLane_state body s).symm ▸ h
  | tread => exact (orderTread_state body s).symm ▸ h
  | treadTally => exact (orderTreadTally_state body s).symm ▸ h
  | mailr => exact (orderMailr_state body s).symm ▸ h
  | mailw => exact k.orderMailw side body h
  | nclr => exact k.notices _ h
  | nqry => exact k.orderNqry body h
  | relh => exact k.loader _ rfl id h
  | crel => exact k.orderCrel side h
  | tload => exact k.orderTload body loaded h
  | arm => exact k.orderArm h
  | endh => exact k.orderEndh h
  | abort => exact k.orderAbort h
  | clear => exact k.orderClear h
  | mark => exact k.orderMark body h
  | src => exact k.orderSrc body h
  | tset => exact k.orderTset body h
  | tctl => exact k.orderTctl body h
  | save => exact k.orderSave h
  | trst => exact k.reset h

/-! ### Taking an order -/

theorem noteOrder_loader (code : OrderCode) (s : State) : (noteOrder code s).loader = s.loader := by
  unfold noteOrder
  split
  · rw [noteOwnerOrder_eq]; rfl
  · rfl

/-- An order that no test before the channel's answers finds the load DONE (R150, test 2). -/
theorem gate_loaded {side : Side} {code : OrderCode} {n : Nat} {s : State}
    (past : ∀ a, gate side code n s ≠ .answered a) : s.loader.load = .done := by
  cases load : s.loader.load with
  | done => rfl
  | loading => exact absurd (by simp [gate, notReady, load]) (past (plain .notReady))

theorem Kept.noteOrder (k : Kept P) (code : OrderCode) {s : State} (h : P s) : P (noteOrder code s) := by
  unfold Machine.noteOrder
  split
  · exact k.ownerOrder h
  · exact h

theorem Kept.decideOrder (k : Kept P) {side : Side} {code : OrderCode} {body : List Byte}
    {effect : State → State × Answer} (effected : ∀ {s}, s.loader.load = .done → P s → P (effect s).1) {s : State}
    (h : P s) : P (decideOrder side code body effect s).1 := by
  unfold Machine.decideOrder
  split
  · exact h
  · next gated => exact k.claim (gate_loaded fun a => by rw [gated]; exact nofun) h
  · next gated =>
    have loaded := gate_loaded fun a => by rw [gated]; exact nofun
    exact effected ((congrArg ConfigLoader.load (noteOrder_loader code s)).trans loaded) (k.noteOrder code h)

theorem Kept.offerDeck (k : Kept P) {e : DeckEntry} (origin : e.origin = .response ∨ e.origin = .passThrough) {s : State}
    (h : P s) : P (offerDeck e s) := by
  unfold Machine.offerDeck
  split
  · next joined => exact k.joins joined origin h
  · exact k.count _ _ _ h

theorem Kept.panelOrder (k : Kept P) (station code tag : Byte) (body : List Byte) {s : State} (h : P s) :
    P (panelOrder station code tag body s) := by
  have decided : P (decidePanel code body s).1 := by
    unfold decidePanel
    split
    · exact h
    · exact k.decideOrder (fun loaded h => k.orderEffect .panel _ body loaded h) h
  unfold Machine.panelOrder
  exact k.offerDeck (.inl rfl) decided

/-- A place reserved for a RESPONSE, and the RESPONSE in it: `Q` is what the law `P` says while the place stands
reserved. -/
structure KeptByReservation (P Q : State → Prop) : Prop where
  reserve : ∀ {s : State} {room : List Telegram}, makeRoom s.board.reserved s.board.queue = some room → P s →
    Q (s.setBoard { s.board with queue := room, reserved := true })
  fill : ∀ {s : State} (t : Telegram), t.kind = kindResponse → Q s → P (fillReservation t s)
  flush : ∀ {s : State}, P s → Q (s.setBoard { s.board with queue := [], reserved := true })

variable {Q : State → Prop}

theorem KeptByAnnouncing.refuseUnplaced (k : KeptByAnnouncing P) (src : Byte) {s : State} (h : P s) :
    P (refuseUnplaced src s) := k.raise _ (k.count _ _ _ h)

theorem consoleOrder_keeps (k : Kept P) (q : Kept Q) (r : KeptByReservation P Q) {src tag : Byte} {code : OrderCode}
    {body : List Byte} {effect : State → State × Answer}
    (effected : ∀ {s}, s.loader.load = .done → Q s → Q (effect s).1) {s : State} (h : P s) :
    P (consoleOrder src code tag body effect s) := by
  unfold consoleOrder reservePlace
  cases room : makeRoom s.board.reserved s.board.queue with
  | none => exact k.refuseUnplaced src h
  | some room' => exact r.fill _ rfl (q.decideOrder effected (r.reserve room h))

theorem unknownOrder_keeps (k : Kept P) (r : KeptByReservation P Q) {src tag code : Byte} {s : State} (h : P s) :
    P (unknownOrder src tag code s) := by
  unfold unknownOrder reservePlace
  cases room : makeRoom s.board.reserved s.board.queue with
  | none => exact k.refuseUnplaced src h
  | some room' => exact r.fill _ rfl (r.reserve room h)

theorem consoleTrst_keeps (k : Kept P) (q : Kept Q) (r : KeptByReservation P Q) {src tag : Byte} {body : List Byte}
    {s : State} (h : P s) : P (consoleTrst src tag body s) := by
  have reset {s : State} (h : Q s) : Q (orderTrst s).1 := by
    show Q (timingReset s)
    exact q.reset h
  unfold consoleTrst
  split
  · exact consoleOrder_keeps k q r (fun _ h => reset h) h
  · unfold trstUnplaced
    split
    · exact r.fill _ rfl (reset (r.flush (k.noteOrder .trst h)))
    · exact k.refuseUnplaced src h

/-! ### Start-up and SAVE -/

theorem loadPart_keeps {write : Nat → List Byte → State → Option State}
    (written : ∀ {i bytes s s'}, write i bytes s = some s' → P s → P s') (base size count : Nat) (image : List Byte)
    {w : Loaded} (h : P w.state) : P (loadPart write base size count image w).state := by
  unfold Machine.loadPart
  generalize List.range count = indices
  induction indices generalizing w with
  | nil => exact h
  | cons i rest ih =>
    refine ih ?_
    dsimp only
    split
    · next taken => exact written taken h
    · exact h

theorem KeptByLamps.setPatterns (k : KeptByLamps P) (live : Fin 3 → PatternSet) {s : State} (h : P s) :
    P (setPatterns live s) := k.lamps _ (fun _ => rfl) h

theorem KeptByWrites.takeImage (k : KeptByWrites P) (image : List Byte) {s : State} (h : P (defaultParts s)) :
    P (takeImage image s).state :=
  k.setPatterns _ (loadPart_keeps k.writeFilter _ _ _ _ (loadPart_keeps k.writeNode _ _ _ _
    (loadPart_keeps k.writeNotice _ _ _ _ (loadPart_keeps k.writeSetting _ _ _ _ h))))

theorem Kept.finishLoad (k : Kept P) (answers : Bool) {s : State} (loading : s.loader.load = .loading) (h : P s) :
    P (finishLoad answers s) := by
  have defaults := k.defaults loading h
  have done {w : Loaded} (h : P w.state) : P (w.state.setLoader { w.state.loader with
      load := .done, hold := w.state.loader.hold || w.state.settings.holdBit }) := k.loader _ rfl nofun h
  have loaded : P (if imageGood answers (s.loader.memory.bytes imageSize) = true then
      takeImage (s.loader.memory.bytes imageSize) s else ⟨defaultParts s, false⟩).state := by
    split
    · exact k.takeImage _ defaults
    · exact defaults
  unfold Machine.finishLoad
  dsimp only
  generalize (if imageGood answers (s.loader.memory.bytes imageSize) = true then
    takeImage (s.loader.memory.bytes imageSize) s else ⟨defaultParts s, false⟩) = w at loaded
  split
  · exact done loaded
  · exact k.raise _ (done loaded)

theorem Kept.finishSave (k : Kept P) (how : SaveEnd) (snapshot : List Byte) {s : State} (h : P s) :
    P (finishSave how snapshot s) := by
  have ended := k.saved how snapshot h
  unfold Machine.finishSave
  dsimp only
  split
  · exact ended
  · exact k.raise _ ended

/-! ### The deck line -/

theorem Kept.holdResult (k : Kept P) {q : Query} {timer : Timer} (result : QueryResult) {s : State}
    (waiting : s.orders.slot = .waiting q (some timer)) (h : P s) : P (holdResult q result s) :=
  k.raise _ (k.held _ _ waiting h)

theorem Kept.takeAnswer (k : Kept P) (station : Byte) (bytes : List Byte) {s : State} (h : P s) :
    P (takeAnswer station bytes s) := by
  have present := k.notePresent station h
  have content (c : AnswerContent) : P (takeContent station c s) := by
    unfold takeContent
    split
    · exact k.takeReport _ _ _ present
    · exact k.panelOrder _ _ _ _ present
    · unfold takeQueryAnswer
      split
      · next waiting =>
        split
        · exact k.holdResult _ waiting present
        · exact present
      · exact present
    · exact k.takeMiss _ _ h
  unfold Machine.takeAnswer
  split
  · exact content _
  · exact k.takeMiss _ _ h
  · exact k.takeMiss _ _ h

theorem KeptBySchedule.endExchange (k : KeptBySchedule P) {s : State} (h : P s) : P (endExchange s) :=
  k.schedule _ rfl rfl h

theorem Kept.deckAnswer (k : Kept P) (bytes : List Byte) {s : State} (h : P s) :
    P (match s.deck.phase with
     | .awaiting station _ => Machine.endExchange (Machine.takeAnswer station bytes s)
     | _ => s) := by
  split
  · exact k.endExchange (k.takeAnswer _ _ h)
  · exact h

theorem Kept.windowMiss (k : Kept P) {s : State} (h : P s) :
    P (match s.deck.phase with
     | .awaiting station window => if timerDue window then endExchange (takeMiss station false s) else s
     | _ => s) := by
  split
  · split
    · exact k.endExchange (k.takeMiss _ _ h)
    · exact h
  · exact h

theorem Kept.badTelegram (k : Kept P) {s : State} (h : P s) :
    P (match s.deck.phase with
     | .awaiting station _ => endExchange (takeMiss station false s)
     | _ => s) := by
  split
  · exact k.endExchange (k.takeMiss _ _ h)
  · exact h

theorem Kept.gapSend (k : Kept P) {s : State} (h : P s) :
    P (match s.deck.phase with
     | .gap => let sent := Machine.sendHead s; sent.setDeck { sent.deck with phase := .ready }
     | _ => s) := by
  split
  · exact k.schedule _ rfl rfl (k.sendHead h)
  · exact h

theorem Kept.poll (k : Kept P) {s : State} (h : P s) :
    P (if mayChoose s then
      match nextVisit s with
      | (chosen, some i) => sendPoll i chosen
      | (_, none) => s
     else s) := by
  have visited := k.nextVisit h
  split
  · split
    · next chosen i visit => rw [visit] at visited; exact k.sendPoll i visited
    · exact h
  · exact h

theorem Kept.emptyRound (k : Kept P) {s : State} (h : P s) :
    P (if mayChoose s then
      match nextVisit s with
      | (_, some _) => s
      | (ended, none) =>
        let sent := Machine.sendHead ended
        sent.setDeck { sent.deck with phase := .quiet (startTimer s.now s.now Config.emptyRoundQuiet) }
     else s) := by
  have visited := k.nextVisit h
  split
  · split
    · exact h
    · next ended visit => rw [visit] at visited; exact k.schedule _ rfl rfl (k.sendHead visited)
  · exact h

/-- The end of a QUERY's transmission starts the answer timer of a waiting query (R162). -/
theorem startAnswerTimer_eq (s : State) : ∃ slot,
    (slot = s.orders.slot ∨ ∃ q timer, slot = .waiting q (some timer))
      ∧ startAnswerTimer s = s.setOrders { s.orders with slot := slot } := by
  unfold startAnswerTimer
  split
  · exact ⟨_, .inr ⟨_, _, rfl⟩, rfl⟩
  · exact ⟨s.orders.slot, .inl rfl, rfl⟩

theorem Kept.querySent (k : Kept P) {s : State} (h : P s) :
    P (if s.deck.queryOnLine then startAnswerTimer (s.setDeck { s.deck with queryOnLine := false }) else s) := by
  obtain ⟨slot, fits, eq⟩ := startAnswerTimer_eq (s.setDeck { s.deck with queryOnLine := false })
  rw [eq]
  split
  · next sent => exact k.sent slot sent fits h
  · exact h

theorem Kept.passThrough (k : Kept P) (dest src kind : Byte) (payload : List Byte) {s : State} (h : P s) :
    P (if dest = s.settings.station then s
     else if passesThrough s dest kind then Machine.offerDeck ⟨.passThrough, ⟨dest, src, kind, payload⟩⟩ s
     else count .passDiscard none (some dest) s) := by
  split
  · exact h
  · split
    · exact k.offerDeck (.inr rfl) h
    · exact k.count _ _ _ h

theorem Kept.boardSend (k : Kept P) {s : State} (h : P s) : P (if boardIdle s then sendBoardHead s else s) := by
  unfold sendBoardHead
  split
  · split
    · exact h
    · next queue => exact k.boardSends _ _ queue h
  · exact h

/-! ### Expiries -/

theorem Kept.heatLimit (k : Kept P) {s : State} (h : P s) :
    P (if expired s.clock.heatLimit then
      let stopped := s.setClock { s.clock with heatLimit := none }
      if s.heat.state = .running then Machine.enterClosing stopped else stopped
     else s) := by
  have stopped : P (s.setClock { s.clock with heatLimit := none }) := k.clock _ rfl nofun id id id id h
  split
  · dsimp only
    split
    · next running => exact k.enterClosing running stopped
    · exact stopped
  · exact h

theorem Kept.recallWindow (k : Kept P) {s : State} (h : P s) :
    P (if expired s.clock.recallWindow then s.setClock { s.clock with recallWindow := none } else s) := by
  split
  · exact k.clock _ rfl id nofun id id id h
  · exact h

theorem Kept.clockStep (k : Kept P) {s : State} (h : P s) :
    P (match s.clock.clockStep with
     | some t => if stepDue t then deliverStep t s else s
     | none => s) := by
  split
  · next t running =>
    split
    · have stepped : P (s.setClock { s.clock with clockStep := some { t with count := t.count + 1 } }) :=
        k.clock _ rfl id id (fun _ => by rw [running]; rfl) id id h
      unfold deliverStep
      dsimp only
      split
      · exact k.offer _ stepped
      · exact stepped
    · exact h
  · exact h

theorem Kept.buttonWindow (k : Kept P) {s : State} (h : P s) :
    P (if expired s.clock.buttonWindow then
      let stopped := s.setClock { s.clock with buttonWindow := none }
      if s.heat.state = .closing then Machine.enterClosed stopped else stopped
     else s) := by
  have stopped : P (s.setClock { s.clock with buttonWindow := none }) := k.clock _ rfl id id id nofun id h
  split
  · dsimp only
    split
    · next closing => exact k.enterClosed closing rfl stopped
    · exact stopped
  · exact h

/-- The result hold is stopped. -/
def HoldStopped (s : State) : Prop := s.clock.resultHold = none

/-- The swap stops the result hold. -/
theorem swapBanks_hold (s : State) : HoldStopped (swapBanks s) := by
  have quiet : KeptByAnnouncing HoldStopped :=
    {}
  have dark : KeptByLamps HoldStopped := {}
  unfold swapBanks
  exact dark.clearLamps (quiet.announceHeat rfl)

theorem Kept.resultHold (k : Kept P) {s : State} (h : P s) :
    P (if expired s.clock.resultHold then
      let stopped := s.setClock { s.clock with resultHold := none }
      if s.banks.pendingSwap then clearPendingSwap (Machine.swapBanks stopped) else stopped
     else s) := by
  have stopped : P (s.setClock { s.clock with resultHold := none }) := k.clock _ rfl id id id id nofun h
  split
  · dsimp only
    split
    · exact k.unpend (swapBanks_hold _) (k.swapBanks stopped)
    · exact stopped
  · exact h

theorem Kept.claimExpiry (k : Kept P) {s : State} (h : P s) : P (if expired s.orders.claim then dropClaim s else s) := by
  split
  · exact k.drop h
  · exact h

theorem isSome_of_expired {t : Option Timer} (h : expired t = true) : t.isSome = true := by
  cases t with
  | none => exact nomatch h
  | some => rfl

theorem Kept.handoverExpiry (k : Kept P) {s : State} (h : P s) :
    P (if expired s.orders.handover then
      if s.orders.claim.isSome ∧ s.orders.chain.isNone then passOwnership (otherSide s.orders.owner) s
      else setHandover none s
     else s) := by
  split
  · next due =>
    split
    · next live => exact k.handOver live.1 h
    · next dead => exact k.noHandover (isSome_of_expired due) dead h
  · exact h

theorem Kept.homeExpiry (k : Kept P) {s : State} (h : P s) :
    P (if expired s.orders.home then passOwnership .console s else s) := by
  split
  · exact k.goHome h
  · exact h

theorem Kept.chainGap (k : Kept P) {s : State} (h : P s) :
    P (if expired (s.orders.chain.map fun c => c.gap) then Machine.raise .chainAbort (Machine.closeChain s) else s) := by
  split
  · exact k.raise _ (k.closeChain h)
  · exact h

theorem Kept.queryAnswer (k : Kept P) {s : State} (h : P s) :
    P (match s.orders.slot with
     | .waiting q answer => if expired answer then Machine.holdResult q .noResponse s else s
     | _ => s) := by
  split
  · next q answer waiting =>
    split
    · next due =>
      cases answer with
      | none => exact nomatch due
      | some timer => exact k.holdResult _ waiting h
    · exact h
  · exact h

theorem Kept.collection (k : Kept P) {s : State} (h : P s) :
    P (match s.orders.slot with
     | .held _ _ collection => if timerDue collection then s.setOrders { s.orders with slot := .free } else s
     | _ => s) := by
  split
  · next held =>
    split
    · exact k.freed held h
    · exact h
  · exact h

theorem Kept.lampPhase (k : Kept P) {s : State} (h : P s) :
    P (if Config.lampPhaseSpan ≤ s.lamps.sincePhase then stepLamps s else s) := by
  split
  · exact k.evaluateAssigned _ (k.lamps _ (fun _ => rfl) h)
  · exact h

theorem Kept.loadDone (k : Kept P) (answers : Bool) {s : State} (h : P s) :
    P (if s.loader.load = .loading then Machine.finishLoad answers s else s) := by
  split
  · next loading => exact k.finishLoad answers loading h
  · exact h

theorem Kept.saveDone (k : Kept P) (how : SaveEnd) {s : State} (h : P s) :
    P (match s.loader.save with
     | .writing image => Machine.finishSave how image s
     | .idle => s) := by
  split
  · exact k.finishSave how _ h
  · exact h

/-! ### Every command -/

/-- Every command but POWER_ON answers a next state, and keeps a law that the state keeps once time has moved on. -/
theorem exec_keeps (k : Kept P) (q : Kept Q) (r : KeptByReservation P Q) {c : Instr} {now : Tick} {s : State}
    (tick : commandTick c = some now) (h : P (advanceTo now s)) : ∃ t, exec c s = .next t ∧ P t := by
  have order {src tag : Byte} {code : OrderCode} {body : List Byte} {effect : State → State × Answer}
      (effected : ∀ {s}, s.loader.load = .done → Q s → Q (effect s).1) :
      P (consoleOrder src code tag body effect (advanceTo now s)) := consoleOrder_keeps k q r effected h
  have effect (code : OrderCode) (body : List Byte) {s : State} (loaded : s.loader.load = .done) (h : Q s) :
      Q (orderEffect .console code body s).1 := q.orderEffect .console code body loaded h
  cases c <;> cases tick
  case loadDone answers => exact ⟨_, rfl, k.loadDone answers h⟩
  case saveDone how => exact ⟨_, rfl, k.saveDone how h⟩
  case poll => exact ⟨_, rfl, k.poll h⟩
  case emptyRound => exact ⟨_, rfl, k.emptyRound h⟩
  case deckAnswer bytes => exact ⟨_, rfl, k.deckAnswer bytes h⟩
  case answerWindowMiss => exact ⟨_, rfl, k.windowMiss h⟩
  case deckBadTelegram => exact ⟨_, rfl, k.badTelegram h⟩
  case commandGap => exact ⟨_, rfl, k.gapSend h⟩
  case querySent => exact ⟨_, rfl, k.querySent h⟩
  case boardBadTelegram => exact ⟨_, rfl, k.count _ _ _ h⟩
  case shortOrder => exact ⟨_, rfl, k.count _ _ _ h⟩
  case boardNonOrder => exact ⟨_, rfl, k.count _ _ _ h⟩
  case passThrough dest src kind payload => exact ⟨_, rfl, k.passThrough dest src kind payload h⟩
  case boardSend => exact ⟨_, rfl, k.boardSend h⟩
  case orderUnknownCode => exact ⟨_, rfl, unknownOrder_keeps k r h⟩
  case stat => exact ⟨_, rfl, order (effect .stat [])⟩
  case lane body => exact ⟨_, rfl, order (effect .lane body)⟩
  case tread body => exact ⟨_, rfl, order (effect .tread body)⟩
  case treadTally body => exact ⟨_, rfl, order (effect .treadTally body)⟩
  case mailr body => exact ⟨_, rfl, order (effect .mailr body)⟩
  case mailw body => exact ⟨_, rfl, order (effect .mailw body)⟩
  case nclr body => exact ⟨_, rfl, order (effect .nclr body)⟩
  case nqry body => exact ⟨_, rfl, order (effect .nqry body)⟩
  case relh body => exact ⟨_, rfl, order (effect .relh body)⟩
  case crel body => exact ⟨_, rfl, order (effect .crel body)⟩
  case tloadFirst body => exact ⟨_, rfl, order (effect .tload body)⟩
  case tloadContinuation body => exact ⟨_, rfl, order (effect .tload body)⟩
  case arm body => exact ⟨_, rfl, order (effect .arm body)⟩
  case endh body => exact ⟨_, rfl, order (effect .endh body)⟩
  case abort body => exact ⟨_, rfl, order (effect .abort body)⟩
  case clear body => exact ⟨_, rfl, order (effect .clear body)⟩
  case mark body => exact ⟨_, rfl, order (effect .mark body)⟩
  case src body => exact ⟨_, rfl, order (effect .src body)⟩
  case tset body => exact ⟨_, rfl, order (effect .tset body)⟩
  case tctlConfigure body => exact ⟨_, rfl, order fun _ h => q.tctlConfigure body h⟩
  case tctlFreeze => exact ⟨_, rfl, order fun _ h => q.tally _ h⟩
  case tctlUnfreeze => exact ⟨_, rfl, order fun _ h => q.tally _ h⟩
  case tctlZero => exact ⟨_, rfl, order fun _ h => q.tally _ h⟩
  case tctlClearOverflow body => exact ⟨_, rfl, order fun _ h => q.tctlClearOverflow body h⟩
  case tctlSetMode => exact ⟨_, rfl, order fun _ h => q.tally _ h⟩
  case tctlUnknownAction => exact ⟨_, rfl, order fun _ h => h⟩
  case save => exact ⟨_, rfl, order (effect .save [])⟩
  case trst => exact ⟨_, rfl, consoleTrst_keeps k q r h⟩
  case heatLimitExpiry => exact ⟨_, rfl, k.heatLimit h⟩
  case recallWindowExpiry => exact ⟨_, rfl, k.recallWindow h⟩
  case clockStepExpiry => exact ⟨_, rfl, k.clockStep h⟩
  case buttonWindowExpiry => exact ⟨_, rfl, k.buttonWindow h⟩
  case resultHoldExpiry => exact ⟨_, rfl, k.resultHold h⟩
  case claimExpiry => exact ⟨_, rfl, k.claimExpiry h⟩
  case handoverExpiry => exact ⟨_, rfl, k.handoverExpiry h⟩
  case homeExpiry => exact ⟨_, rfl, k.homeExpiry h⟩
  case chainGapExpiry => exact ⟨_, rfl, k.chainGap h⟩
  case queryAnswerExpiry => exact ⟨_, rfl, k.queryAnswer h⟩
  case collectionExpiry => exact ⟨_, rfl, k.collection h⟩
  case lampPhaseStep => exact ⟨_, rfl, k.lampPhase h⟩

/-- What a law needs to be kept by every step: every change of a command, POWER_ON, and time moving on. -/
structure KeptBySteps (P Q : State → Prop) : Prop where
  changes : Kept P
  changesReserved : Kept Q
  reservation : KeptByReservation P Q
  time : ∀ {s : State} (now : Tick), P s → P (advanceTo now s)
  power : ∀ {s : State} (strapHigh : Bool) (written : Nat), P s →
    P (powerOnState strapHigh (memoryAtPowerOn written s.loader) s.pending)
  waiting : ∀ {s : State} (x : List Instr), P s → P (s.setPending x)

theorem KeptBySteps.kept (k : KeptBySteps P Q) : KeptByEveryStep P := by
  intro s t h taken
  unfold step at taken
  split at taken
  · cases taken; exact h
  · next c rest _ =>
    have waits := k.waiting rest h
    cases tick : commandTick c with
    | none =>
      cases c <;> cases tick
      cases taken
      exact k.power _ _ waits
    | some now =>
      obtain ⟨t', next, holds⟩ := exec_keeps k.changes k.changesReserved k.reservation tick (k.time now waits)
      rw [next] at taken
      cases taken
      exact holds

end

end Sys2Proof.Machine
end
section
/-! The laws that every step keeps: each is kept by the changes that a command is made of. -/

namespace Sys2Proof.Machine

/-! ### Blocks that a law does not speak of -/

/-- A law that speaks of no part of the Order Handler but the query slot is kept by the channel's work. -/
theorem KeptByChannel.of_slot {P : State → Prop}
    (orders : ∀ {s : State} (x : OrderHandler), x.slot = s.orders.slot → P s → P (s.setOrders x)) :
    KeptByChannel P := by
  have handover {s : State} (h : P s) : P (startHandover s) := by
    unfold startHandover
    split
    · exact orders _ rfl h
    · exact h
  have home {s : State} (h : P s) : P (startHome s) := by
    unfold startHome
    split
    · exact orders _ rfl h
    · exact h
  have claim {s : State} (h : P s) : P (registerClaim s) := by
    unfold registerClaim
    dsimp only
    split
    · exact orders _ rfl h
    · exact handover (orders _ rfl h)
  exact
    { ownerOrder := fun h => home (handover h)
      claim := fun _ h => claim h
      drop := fun h => orders _ rfl h
      handOver := fun _ h => home (orders _ rfl h)
      goHome := fun h => home (orders _ rfl h)
      noHandover := fun _ _ h => orders _ rfl h
      openChain := fun _ _ h => orders _ rfl h
      chain := fun _ _ h => orders _ rfl h
      closeChain := fun h => home (handover (orders _ rfl h)) }

/-- The TIMING RESET keeps `P` when its work on the blocks gives `W`, announcing keeps `W`, and the flush of the deck
command queue turns `W` into `P` again. -/
structure KeptByReset (P W : State → Prop) : Prop extends KeptByAnnouncing W where
  enter : ∀ {s : State} (home : Option Timer), (resetOrders s).orders.home = home → P s →
    W (flushBoard (resetHeat (s.setOrders { s.orders with
      chain := none, slot := .free, claim := none, handover := none, home := home })))
  flush : ∀ {s : State}, W s → P (s.setDeck { s.deck with queue := [], queryOnLine := false })

theorem resetOrders_eq (s : State) : resetOrders s = s.setOrders { s.orders with
    chain := none, slot := .free, claim := none, handover := none, home := (resetOrders s).orders.home } := by
  unfold resetOrders startHome
  split <;> rfl

theorem KeptByReset.timingReset {P W : State → Prop} (k : KeptByReset P W) (lamps : KeptByLamps P)
    (announcing : KeptByAnnouncing P) {s : State} (h : P s) : P (timingReset s) := by
  have entered := k.enter _ rfl h
  rw [← resetOrders_eq] at entered
  have flushed := k.flush (k.offer (heatTelegram (flushBoard (resetHeat (resetOrders s)))) entered)
  unfold Machine.timingReset resetNotices flushDeck
  exact announcing.notices _ (lamps.clearLamps (lamps.lamps _ (fun lane => by simp) flushed))

/-! ### Time and the waiting commands -/

/-- The commands that wait, and the tick. -/
def Settled (waiting : List Instr) (now : Tick) (s : State) : Prop := s.pending = waiting ∧ s.clock.tick = now

theorem settled_keptByLamps (waiting : List Instr) (now : Tick) : KeptByLamps (Settled waiting now) where

theorem settled_keptByAnnouncing (waiting : List Instr) (now : Tick) : KeptByAnnouncing (Settled waiting now) where

theorem settled_keptByReset (waiting : List Instr) (now : Tick) :
    KeptByReset (Settled waiting now) (Settled waiting now) where
  enter _ _ h := h
  flush h := h

theorem settled_kept (waiting : List Instr) (now : Tick) : Kept (Settled waiting now) where
  clock _ tick _ _ _ _ _ h := ⟨h.1, tick.trans h.2⟩
  toKeptByChannel := .of_slot fun _ _ h => h
  reset := (settled_keptByReset waiting now).timingReset (settled_keptByLamps waiting now)
    (settled_keptByAnnouncing waiting now)

theorem settled_keptByReservation (waiting : List Instr) (now : Tick) :
    KeptByReservation (Settled waiting now) (Settled waiting now) where
  reserve _ h := h
  fill _ _ h := h
  flush h := h

/-- Settles O2: no change of a command touches the waiting commands or the tick, once time has moved on to its tick. -/
theorem commandsCompleteAndKeepTime : Obligations.CommandsCompleteAndKeepTime := by
  unfold Obligations.CommandsCompleteAndKeepTime
  intro c s
  cases tick : commandTick c with
  | none =>
    cases c <;> cases tick
    exact ⟨_, rfl, rfl, rfl⟩
  | some now =>
    have settled : Settled s.pending now (advanceTo now s) := ⟨rfl, rfl⟩
    obtain ⟨t, next, pending, at'⟩ := exec_keeps (settled_kept s.pending now) (settled_kept s.pending now)
      (settled_keptByReservation s.pending now) tick settled
    exact ⟨t, next, pending, by rw [at', tickAfter, tick]; rfl⟩

/-! ### The configuration memory -/

theorem memoryLaw_kept : Kept MemoryLaw where
  loader l same _ h := by unfold MemoryLaw at h ⊢; simpa [same] using h
  saved how snapshot h := saveOutcome_wf h how snapshot
  toKeptByChannel := .of_slot fun _ _ h => h
  reset := KeptByReset.timingReset (W := MemoryLaw) { enter := fun _ _ h => h, flush := fun h => h } {} {}

theorem memoryLaw_keptBySteps : KeptBySteps MemoryLaw MemoryLaw where
  changes := memoryLaw_kept
  changesReserved := memoryLaw_kept
  reservation := { reserve := fun _ h => h, fill := fun _ _ h => h, flush := fun h => h }
  time _ h := h
  power _ written h := memoryAtPowerOn_wf h written
  waiting _ h := h

/-! ### The board queue -/

/-- The bounds of the board queue with its reservation made or not. -/
def BoardHolds (reserved : Bool) (s : State) : Prop := s.board.reserved = reserved ∧ BoardBounds s.board

theorem boardHolds_false {s : State} : BoardHolds false s ↔ BoardLaw s := by
  unfold BoardHolds BoardLaw BoardBounds placesTaken splitLanes
  refine and_congr_right fun free => ?_
  rw [free]
  rfl

theorem boardBounds_empty (b : BoardTransmitter) : BoardBounds { b with queue := [] } := by
  refine ⟨?_, List.nodup_nil⟩
  unfold placesTaken
  split <;> simp

theorem boardHolds_keptByAnnouncing (reserved : Bool) : KeptByAnnouncing (BoardHolds reserved) where
  admits admitted h := ⟨h.1, boardBounds_insertBoard h.2 admitted⟩

theorem boardHolds_kept (reserved : Bool) : Kept (BoardHolds reserved) where
  toKeptByAnnouncing := boardHolds_keptByAnnouncing reserved
  toKeptByChannel := .of_slot fun _ _ h => h
  reset := KeptByReset.timingReset (W := BoardHolds reserved)
    { toKeptByAnnouncing := boardHolds_keptByAnnouncing reserved
      enter := fun {s} _ _ h => ⟨h.1, boardBounds_empty s.board⟩, flush := fun h => h } {}
    (boardHolds_keptByAnnouncing reserved)
  boardSends {s} {t} {rest} _ _ queue h := by
    obtain ⟨free, places, differ⟩ := h
    rw [queue] at places differ
    have sub : rest.Sublist (t :: rest) := List.sublist_cons_self t rest
    exact ⟨free, Nat.le_trans (Nat.add_le_add_right sub.length_le _) places, (splitLanes_sublist sub).nodup differ⟩

theorem boardHolds_keptByReservation : KeptByReservation (BoardHolds false) (BoardHolds true) where
  reserve {s} {room} made h := by
    obtain ⟨free, places, differ⟩ := h
    obtain ⟨sub, placed⟩ := makeRoom_some made places
    refine ⟨rfl, ?_, (splitLanes_sublist sub).nodup differ⟩
    rw [free] at placed
    simp only [placesTaken, State.setBoard_board, if_pos] at placed ⊢
    rw [if_neg Bool.false_ne_true] at placed
    omega
  fill {s} t kind h := by
    obtain ⟨reserved, places, differ⟩ := h
    refine ⟨rfl, ?_, splitLanes_append_nodup differ fun split => ?_⟩
    · rw [reserved] at places
      simpa [placesTaken, fillReservation] using places
    · rw [kind] at split
      exact nomatch split
  flush {s} _ := ⟨rfl, boardBounds_empty { s.board with reserved := true }⟩

theorem boardLaw_kept : KeptByEveryStep BoardLaw := by
  have steps : KeptBySteps (BoardHolds false) (BoardHolds true) :=
    { changes := boardHolds_kept false
      changesReserved := boardHolds_kept true
      reservation := boardHolds_keptByReservation
      time := fun _ h => h
      power := fun _ _ _ => ⟨rfl, boardBounds_empty ⟨[], false, none, none⟩⟩
      waiting := fun _ h => h }
  exact fun s t h taken => boardHolds_false.mp (steps.kept s t (boardHolds_false.mpr h) taken)

end Sys2Proof.Machine
end
section
/-! The laws of the heat and its lanes, of the node table, of the channel and of the deck command queue. -/

namespace Sys2Proof.Machine

/-! ### Splits and samples (R97, R111) -/

/-- A record's splits are numbered from 1 to its length count, and it holds one sample a button position. -/
def CourseFits (r : LaneRecord) : Prop :=
  r.splits.map (fun x => x.length) = List.range' 1 r.lengthCount ∧ (r.samples.map fun x => x.position).Nodup

theorem courseFits_vacant : CourseFits vacantRecord := ⟨rfl, List.nodup_nil⟩

theorem courseFits_initial (e : LaneEntry) : CourseFits (initialRecord e) := by
  unfold initialRecord
  split
  · exact courseFits_vacant
  · exact courseFits_vacant

theorem courseFits_start {r : LaneRecord} (tick : Tick) (h : CourseFits r) : CourseFits (startRecord tick r) := by
  unfold startRecord
  split
  · split <;> exact h
  · exact h

theorem courseFits_close {r : LaneRecord} (h : CourseFits r) : CourseFits (closeRecord r) := by
  unfold closeRecord
  split <;> exact h

theorem courseFits_same {r r' : LaneRecord} (same : SameCourse r r') (h : CourseFits r) : CourseFits r' := by
  unfold CourseFits
  rw [same.splits, same.count, same.samples]
  exact h

theorem courseFits_split {r : LaneRecord} (time touch : Option Int) (late : Bool) (h : CourseFits r) :
    CourseFits { r with
      splits := r.splits ++ [⟨r.lengthCount + 1, time⟩]
      lengthCount := r.lengthCount + 1, lastTouch := touch, late := late } := by
  refine ⟨?_, h.2⟩
  simp only [List.map_append, h.1, List.map_cons, List.map_nil]
  rw [List.range'_concat, Nat.one_mul, Nat.add_comm]

theorem courseFits_sample {r : LaneRecord} {position : Nat} (time : Int) (late : Bool)
    (fresh : ∀ x ∈ r.samples, x.position ≠ position) (h : CourseFits r) :
    CourseFits { r with samples := r.samples ++ [⟨position, time⟩], late := late } := by
  refine ⟨h.1, ?_⟩
  simp only [List.map_append, List.map_cons, List.map_nil]
  rw [List.nodup_append]
  refine ⟨h.2, List.nodup_cons.mpr ⟨List.not_mem_nil, List.nodup_nil⟩, fun a mem b is same => ?_⟩
  obtain ⟨x, queued, rfl⟩ := List.mem_map.mp mem
  exact fresh x queued (same.trans (List.mem_singleton.mp is))

theorem splitLaw_setLane {lane : Lane} {r : LaneRecord} {s : State} (fits : CourseFits r) (h : SplitLaw s) :
    SplitLaw (setLane lane r s) := by
  intro other
  rw [setLane_lane]
  split
  · exact fits
  · exact h other

theorem splitLaw_initialised (s : State) : SplitLaw (initialiseLanes s) := fun lane => by
  have record : (initialiseLanes s).lanes[lane] = initialRecord s.activeBank.lanes[lane] := by
    simp [initialiseLanes, resetResults]
  rw [record]
  exact courseFits_initial _

theorem splitLaw_vacated (s : State) : SplitLaw (vacateLanes s) := fun lane => by
  have record : (vacateLanes s).lanes[lane] = vacantRecord := by simp [vacateLanes, resetResults]
  rw [record]
  exact courseFits_vacant

theorem splitLaw_kept : Kept SplitLaw where
  records _ same h lane := courseFits_same (same lane) (h lane)
  split lane time touch late h := splitLaw_setLane (courseFits_split time touch late (h lane)) h
  finish {s} lane r _ same h := splitLaw_setLane
    (courseFits_same (r := { s.lanes[lane] with state := .finished }) same (h lane)) h
  sample lane position time late fresh h := splitLaw_setLane (courseFits_sample time late fresh (h lane)) h
  start tick lanes _ _ _ _ started h lane := by
    show CourseFits lanes[lane]
    rw [started lane]
    exact courseFits_start tick (h lane)
  recallMarks {s} _ _ := splitLaw_initialised (setHeatState .armed s)
  recallStart {s} _ _ := splitLaw_initialised (setHeatState .armed (discardStart
    (s.setClock { s.clock with heatLimit := none, recallWindow := none, clockStep := none })))
  closed {s} _ _ h lane := by
    show CourseFits (mapAll s.lanes closeRecord)[lane]
    simp only [Fin.getElem_fin, mapAll_getElem]
    exact courseFits_close (h lane)
  swap {s} _ := splitLaw_initialised (discardStart (stopHeatTimers
    (s.setBanks { s.banks with active := otherBank s.banks.active })))
  abort {s} _ := splitLaw_initialised (setHeatState .armed (clearPendingSwap (discardStart (stopHeatTimers s))))
  clear {s} _ _ := splitLaw_vacated (setHeatState .idle (clearPendingSwap (discardStart
    (s.setClock { s.clock with resultHold := none }))))
  toKeptByChannel := .of_slot fun _ _ h => h
  reset := KeptByReset.timingReset (W := SplitLaw)
    { enter := fun {s} _ _ _ => splitLaw_vacated s, flush := fun h => h } {} {}

theorem splitLaw_powerOn (strapHigh : Bool) (memory : Memory) (pending : List Instr) :
    SplitLaw (powerOnState strapHigh memory pending) := splitLaw_vacated (powerOnState strapHigh memory pending)

theorem splitLaw_keptBySteps : KeptBySteps SplitLaw SplitLaw where
  changes := splitLaw_kept
  changesReserved := splitLaw_kept
  reservation := { reserve := fun _ h => h, fill := fun _ _ h => h, flush := fun h => h }
  time _ h := h
  power _ _ _ := splitLaw_powerOn _ _ _
  waiting _ h := h

/-! ### The heat (R68 to R72) -/

/-- The lane records are in lane states that a heat state allows. -/
def LanesFit (h : HeatState) (lanes : Vector LaneRecord 10) : Prop := ∀ lane : Lane, LaneStateFits h lanes[lane].state

/-- The heat timers that run are those of a heat state, the result hold for a pending swap alone. -/
structure TimersFit (h : HeatState) (pending : Bool) (c : RaceClock) : Prop where
  heatLimit : c.heatLimit.isSome = true → h = .running
  recallWindow : c.recallWindow.isSome = true → h = .running
  clockStep : c.clockStep.isSome = true → h = .running ∨ h = .closing
  buttonWindow : c.buttonWindow.isSome = true → h = .closing
  resultHold : c.resultHold.isSome = true → h = .closed ∧ pending = true

theorem raceLaw_iff {s : State} : RaceLaw s ↔ (s.heat.startTick.isSome = true ↔ Started s.heat.state)
    ∧ LanesFit s.heat.state s.lanes ∧ TimersFit s.heat.state s.banks.pendingSwap s.clock
    ∧ (s.banks.pendingSwap = true → s.heat.state ≠ .idle) :=
  ⟨fun ⟨start, lanes, limit, window, step, button, hold, pending⟩ =>
    ⟨start, lanes, ⟨limit, window, step, button, hold⟩, pending⟩,
   fun ⟨start, lanes, ⟨limit, window, step, button, hold⟩, pending⟩ =>
    ⟨start, lanes, limit, window, step, button, hold, pending⟩⟩

/-- No heat timer runs. -/
theorem timersFit_stopped (h : HeatState) (pending : Bool) (tick : Tick) :
    TimersFit h pending ⟨tick, none, none, none, none, none⟩ := ⟨nofun, nofun, nofun, nofun, nofun⟩

theorem lanesFit_initial (entries : Vector LaneEntry 10) : LanesFit .armed (mapAll entries initialRecord) := by
  intro lane
  simp only [Fin.getElem_fin, mapAll_getElem, initialRecord]
  split
  · exact .inl rfl
  · trivial

theorem lanesFit_vacant (h : HeatState) : LanesFit h (Vector.replicate 10 vacantRecord) := by
  intro lane
  simp only [Fin.getElem_fin, Vector.getElem_replicate]
  trivial

/-- What stands in ARMED or MARKS stands in either of them. -/
theorem lanesFit_beforeStart {h h' : HeatState} {lanes : Vector LaneRecord 10} (before : h = .armed ∨ h = .marks)
    (after : h' = .armed ∨ h' = .marks) (fit : LanesFit h lanes) : LanesFit h' lanes := by
  intro lane
  have fits := fit lane
  cases state : lanes[lane].state <;> rw [state] at fits <;> rcases before with rfl | rfl <;>
    simp_all [LaneStateFits, Started]

theorem lanesFit_started {h : HeatState} {lanes lanes' : Vector LaneRecord 10} {tick : Tick}
    (before : h = .armed ∨ h = .marks) (started : ∀ lane : Lane, lanes'[lane] = startRecord tick lanes[lane])
    (fit : LanesFit h lanes) : LanesFit .running lanes' := by
  intro lane
  have fits := fit lane
  have starts : (startRecord tick lanes[lane]).state
      = if lanes[lane].state = .waiting then .swimming else lanes[lane].state := by
    unfold startRecord
    split
    · split <;> rfl
    · rfl
  rw [started lane, starts]
  split
  · exact .inl rfl
  · next other =>
    cases state : lanes[lane].state <;> rw [state] at fits <;> rcases before with rfl | rfl <;>
      simp_all [LaneStateFits, Started]

theorem lanesFit_closing {lanes : Vector LaneRecord 10} (fit : LanesFit .running lanes) : LanesFit .closing lanes := by
  intro lane
  have fits := fit lane
  cases state : lanes[lane].state <;> rw [state] at fits <;> simp_all [LaneStateFits, Started]

theorem lanesFit_closed {lanes : Vector LaneRecord 10} : LanesFit .closed (mapAll lanes closeRecord) := by
  intro lane
  simp only [Fin.getElem_fin, mapAll_getElem]
  generalize lanes[lane.val] = r
  unfold closeRecord
  split
  · next settled =>
    rcases settled with vacant | finished
    · rw [vacant]; trivial
    · rw [finished]; exact .inr (.inr rfl)
  · exact rfl

theorem lanesFit_same {h : HeatState} {lanes lanes' : Vector LaneRecord 10}
    (same : ∀ lane : Lane, lanes'[lane].state = lanes[lane].state) (fit : LanesFit h lanes) : LanesFit h lanes' :=
  fun lane => by rw [same lane]; exact fit lane

theorem raceLaw_setLane {lane : Lane} {r : LaneRecord} {s : State}
    (fits : LaneStateFits s.heat.state s.lanes[lane].state → LaneStateFits s.heat.state r.state) (h : RaceLaw s) :
    RaceLaw (setLane lane r s) := by
  obtain ⟨start, lanes, timers, pending⟩ := raceLaw_iff.mp h
  refine raceLaw_iff.mpr ⟨start, fun other => ?_, timers, pending⟩
  rw [setLane_lane]
  split
  · exact fits (lanes lane)
  · exact lanes other

/-- Where a lane swims, one may have finished. -/
theorem laneStateFits_finished {h : HeatState} (swims : LaneStateFits h .swimming) : LaneStateFits h .finished := by
  rcases swims with running | closing
  · exact .inl running
  · exact .inr (.inl closing)

theorem not_started_armed : ¬ Started .armed := by rintro (h | h | h) <;> exact nomatch h

theorem not_started_marks : ¬ Started .marks := by rintro (h | h | h) <;> exact nomatch h

theorem not_started_idle : ¬ Started .idle := by rintro (h | h | h) <;> exact nomatch h

/-- Of the heat timers none but the result hold runs in ARMED. -/
theorem TimersFit.armed {h : HeatState} {pending : Bool} {c : RaceClock} (fit : TimersFit h pending c)
    (limit : c.heatLimit = none) (window : c.recallWindow = none) (step : c.clockStep = none)
    (open' : h = .marks ∨ h = .running) : TimersFit .armed pending c := by
  obtain ⟨_, _, _, button, hold⟩ := fit
  refine ⟨by simp [limit], by simp [window], by simp [step], fun runs => ?_, fun runs => ?_⟩
  · rcases open' with rfl | rfl <;> exact nomatch button runs
  · rcases open' with rfl | rfl <;> exact nomatch (hold runs).1

theorem raceLaw_kept : Kept RaceLaw where
  records _ same h := by
    obtain ⟨start, lanes, timers, pending⟩ := raceLaw_iff.mp h
    exact raceLaw_iff.mpr ⟨start, lanesFit_same (fun lane => (same lane).state) lanes, timers, pending⟩
  split _ _ _ _ h := raceLaw_setLane (fun fits => fits) h
  sample _ _ _ _ _ h := raceLaw_setLane (fun fits => fits) h
  finish lane r swims same h := raceLaw_setLane (fun fits => by
    rw [same.state]
    exact laneStateFits_finished (swims ▸ fits)) h
  marks armed h := by
    obtain ⟨start, lanes, timers, pending⟩ := raceLaw_iff.mp h
    obtain ⟨limit, window, step, button, hold⟩ := timers
    rw [armed] at start lanes limit window step button hold
    refine raceLaw_iff.mpr ⟨?_, lanesFit_beforeStart (.inl rfl) (.inr rfl) lanes,
      ⟨fun runs => (nomatch limit runs), fun runs => (nomatch window runs), fun runs => (nomatch step runs),
        fun runs => (nomatch button runs), fun runs => (nomatch (hold runs).1)⟩, fun _ => nofun⟩
    exact start.trans ⟨fun h => absurd h not_started_armed, fun h => absurd h not_started_marks⟩
  start _ lanes _ _ _ before started h := by
    obtain ⟨_, fit, timers, pending⟩ := raceLaw_iff.mp h
    obtain ⟨_, _, _, button, hold⟩ := timers
    refine raceLaw_iff.mpr ⟨⟨fun _ => .inl rfl, fun _ => rfl⟩, lanesFit_started before started fit,
      ⟨fun _ => rfl, fun _ => rfl, fun _ => .inl rfl, fun runs => ?_, fun runs => ?_⟩, fun _ => nofun⟩
    · have closing := button runs
      rw [closing] at before
      rcases before with h | h <;> exact nomatch h
    · have closed := (hold runs).1
      rw [closed] at before
      rcases before with h | h <;> exact nomatch h
  recallMarks {s} marks h := by
    obtain ⟨start, _, timers, pending⟩ := raceLaw_iff.mp h
    rw [marks] at start timers
    have limit : s.clock.heatLimit = none := by
      exact Classical.byContradiction fun runs => nomatch timers.heatLimit (Option.isSome_iff_ne_none.mpr runs)
    have window : s.clock.recallWindow = none := by
      exact Classical.byContradiction fun runs => nomatch timers.recallWindow (Option.isSome_iff_ne_none.mpr runs)
    have step : s.clock.clockStep = none := by
      exact Classical.byContradiction fun runs => nomatch timers.clockStep (Option.isSome_iff_ne_none.mpr runs)
    refine raceLaw_iff.mpr ⟨?_, lanesFit_initial _, timers.armed limit window step (.inl rfl), fun _ => nofun⟩
    exact start.trans ⟨fun h => absurd h not_started_marks, fun h => absurd h not_started_armed⟩
  recallStart {s} running h := by
    obtain ⟨_, _, timers, _⟩ := raceLaw_iff.mp h
    rw [running] at timers
    have stopped : TimersFit .running s.banks.pendingSwap
        { s.clock with heatLimit := none, recallWindow := none, clockStep := none } :=
      ⟨nofun, nofun, nofun, timers.buttonWindow, timers.resultHold⟩
    exact raceLaw_iff.mpr ⟨⟨nofun, fun h => absurd h not_started_armed⟩, lanesFit_initial _,
      stopped.armed rfl rfl rfl (.inr rfl), fun _ => nofun⟩
  closing {s} _ running h := by
    obtain ⟨start, lanes, timers, _⟩ := raceLaw_iff.mp h
    rw [running] at start lanes timers
    exact raceLaw_iff.mpr ⟨⟨fun _ => .inr (.inl rfl), fun _ => start.mpr (.inl rfl)⟩, lanesFit_closing lanes,
      ⟨nofun, nofun, fun _ => .inr rfl, fun _ => rfl, fun runs => (nomatch (timers.resultHold runs).1)⟩, fun _ => nofun⟩
  closed {s} closing window h := by
    obtain ⟨start, lanes, timers, _⟩ := raceLaw_iff.mp h
    rw [closing] at start lanes timers
    refine raceLaw_iff.mpr ⟨⟨fun _ => .inr (.inr rfl), fun _ => start.mpr (.inr (.inl rfl))⟩, lanesFit_closed,
      ⟨fun runs => (nomatch timers.heatLimit runs), fun runs => (nomatch timers.recallWindow runs), nofun, fun runs => ?_,
        fun runs => (nomatch (timers.resultHold runs).1)⟩, fun _ => nofun⟩
    simp [setHeatState, window] at runs
  hold {s} _ closed swap h := by
    obtain ⟨start, lanes, timers, pending⟩ := raceLaw_iff.mp h
    exact raceLaw_iff.mpr ⟨start, lanes, ⟨timers.heatLimit, timers.recallWindow, timers.clockStep, timers.buttonWindow,
      fun _ => ⟨closed, swap⟩⟩, pending⟩
  swap _ := raceLaw_iff.mpr ⟨⟨nofun, fun h => absurd h not_started_armed⟩, lanesFit_initial _,
    timersFit_stopped _ _ _, fun _ => nofun⟩
  pend {s} state h := by
    obtain ⟨start, lanes, timers, _⟩ := raceLaw_iff.mp h
    refine raceLaw_iff.mpr ⟨start, lanes, ⟨timers.heatLimit, timers.recallWindow, timers.clockStep, timers.buttonWindow,
      fun runs => ⟨(timers.resultHold runs).1, rfl⟩⟩, fun _ idle => ?_⟩
    have idle : s.heat.state = .idle := idle
    rw [idle] at state
    rcases state with h | h <;> exact nomatch h
  unpend {s} stopped h := by
    obtain ⟨start, lanes, timers, _⟩ := raceLaw_iff.mp h
    refine raceLaw_iff.mpr ⟨start, lanes, ⟨timers.heatLimit, timers.recallWindow, timers.clockStep, timers.buttonWindow,
      fun runs => ?_⟩, nofun⟩
    simp [clearPendingSwap, stopped] at runs
  abort _ := raceLaw_iff.mpr ⟨⟨nofun, fun h => absurd h not_started_armed⟩, lanesFit_initial _,
    timersFit_stopped _ _ _, nofun⟩
  clear {s} state h := by
    obtain ⟨_, _, timers, _⟩ := raceLaw_iff.mp h
    have still {P : HeatState → Prop} (armed : ¬ P .armed) (closed : ¬ P .closed) : ¬ P s.heat.state := by
      rcases state with state | state <;> rw [state] <;> assumption
    exact raceLaw_iff.mpr ⟨⟨nofun, fun h => absurd h not_started_idle⟩, lanesFit_vacant _,
      ⟨fun runs => absurd (timers.heatLimit runs) (still (P := (· = .running)) nofun nofun),
        fun runs => absurd (timers.recallWindow runs) (still (P := (· = .running)) nofun nofun),
        fun runs => absurd (timers.clockStep runs)
          (still (P := fun h => h = .running ∨ h = .closing) (by simp) (by simp)),
        fun runs => absurd (timers.buttonWindow runs) (still (P := (· = .closing)) nofun nofun), nofun⟩, nofun⟩
  clock c _ limit window step button hold h := by
    obtain ⟨start, lanes, timers, pending⟩ := raceLaw_iff.mp h
    exact raceLaw_iff.mpr ⟨start, lanes, ⟨fun runs => timers.heatLimit (limit runs),
      fun runs => timers.recallWindow (window runs), fun runs => timers.clockStep (step runs),
      fun runs => timers.buttonWindow (button runs), fun runs => timers.resultHold (hold runs)⟩, pending⟩
  standby x _ same h := by
    obtain ⟨start, lanes, timers, pending⟩ := raceLaw_iff.mp h
    refine raceLaw_iff.mpr ⟨start, lanes, ?_, ?_⟩
    · rw [State.setBanks_banks, same]; exact timers
    · rw [State.setBanks_banks, same]; exact pending
  toKeptByChannel := .of_slot fun _ _ h => h
  reset := KeptByReset.timingReset (W := RaceLaw)
    { enter := fun _ _ _ => raceLaw_iff.mpr ⟨⟨nofun, fun h => absurd h not_started_idle⟩, lanesFit_vacant _,
        timersFit_stopped _ _ _, nofun⟩
      flush := fun h => h } {} {}

theorem raceLaw_powerOn (strapHigh : Bool) (memory : Memory) (pending : List Instr) :
    RaceLaw (powerOnState strapHigh memory pending) :=
  raceLaw_iff.mpr ⟨⟨nofun, fun h => absurd h not_started_idle⟩, lanesFit_vacant _, timersFit_stopped _ _ _, nofun⟩

theorem raceLaw_keptBySteps : KeptBySteps RaceLaw RaceLaw where
  changes := raceLaw_kept
  changesReserved := raceLaw_kept
  reservation := { reserve := fun _ h => h, fill := fun _ _ h => h, flush := fun h => h }
  time now h := by
    obtain ⟨start, lanes, timers, pending⟩ := raceLaw_iff.mp h
    obtain ⟨limit, window, step, button, hold⟩ := timers
    refine raceLaw_iff.mpr ⟨start, lanes, ⟨?_, ?_, ?_, ?_, ?_⟩, pending⟩ <;>
      simpa only [advanceTo, runClock, Option.isSome_map]
  power _ _ _ := raceLaw_powerOn _ _ _
  waiting _ h := h

/-- Settles O58: each change of the heat takes the lanes, the timers and the pending swap with it, and a split or a sample
joins a record only behind the tests of its touch or press. -/
theorem raceLawsKept : Obligations.RaceLawsKept := ⟨raceLaw_keptBySteps.kept, splitLaw_keptBySteps.kept⟩

end Sys2Proof.Machine
end
section
/-! The laws of the node table, of the control channel and of the deck command queue. -/

namespace Sys2Proof.Machine

/-! ### The node table (R22 to R24, R160) -/

/-- A law of the node table says the same of tables that hold the same entries. -/
theorem nodeLaw_same {s t : State} (entries : SameEntries t.nodes s.nodes)
    (station : t.settings.station = s.settings.station) (h : NodeLaw s) : NodeLaw t := by
  obtain ⟨stored, once, own⟩ := h
  have found {i : Fin 64} {n : Node} (here : t.nodes[i] = some n) :
      ∃ m, s.nodes[i] = some m ∧ m.entry = n.entry := by
    have same := entries i
    rw [here] at same
    exact Option.map_eq_some_iff.mp same.symm
  refine ⟨fun i n here => ?_, fun i j n m first second same => ?_, station ▸ own⟩
  · obtain ⟨m, there, entry⟩ := found here
    rw [← entry, station]
    exact stored i m there
  · obtain ⟨n', first', entry⟩ := found first
    obtain ⟨m', second', entry'⟩ := found second
    exact once i j n' m' first' second' (by rw [entry, entry', same])

/-- The byte of an accepted lane, end or position is one. -/
theorem nodeWrite_some {s : State} {i : Fin 64} {bytes : List Byte} {n : Node}
    (written : nodeWrite s i bytes = some (some n)) : ∃ kind, stationFits s i (byteAt bytes 1) = true
      ∧ nodeKindOf (byteAt bytes 2).toNat = some kind ∧ n = ⟨storedNode bytes kind, freshRuntime⟩
      ∧ roleFits (storedNode bytes kind) = true := by
  unfold nodeWrite at written
  split at written
  · exact nomatch written
  · split at written
    · exact nomatch written
    · next fits =>
      split at written
      · exact nomatch written
      · next kind known =>
        dsimp only at written
        split at written
        · next role =>
          cases written
          exact ⟨kind, Classical.not_not.mp fits, known, rfl, role⟩
        · exact nomatch written

theorem stationFits_iff {s : State} {i : Fin 64} {station : Byte} : stationFits s i station = true ↔
    2 ≤ station.toNat ∧ station.toNat ≤ 126 ∧ station ≠ s.settings.station
      ∧ ∀ (j : Fin 64) (m : Node), j ≠ i → s.nodes[j] = some m → m.entry.station ≠ station := by
  have held (j : Fin 64) : holdsStation s.nodes station j = true ↔ ∃ m, s.nodes[j] = some m ∧ m.entry.station = station := by
    unfold holdsStation
    cases s.nodes[j] <;> simp
  simp only [stationFits, Bool.and_eq_true, decide_eq_true_eq, bne_iff_ne, Bool.not_eq_true', List.any_eq_false,
    not_and, and_assoc]
  refine and_congr_right fun _ => and_congr_right fun _ => and_congr_right fun _ => ?_
  constructor
  · intro free j m other there same
    exact free j (List.mem_finRange j) other ((held j).mpr ⟨m, there, same⟩)
  · intro free j _ other holds
    obtain ⟨m, there, same⟩ := (held j).mp holds
    exact free j m other there same

theorem positionOf_some {b : Byte} (h : (positionOf b).isSome = true) :
    positionOf b = some 1 ∨ positionOf b = some 2 ∨ positionOf b = some 3 := by
  unfold positionOf at h ⊢
  split
  · next within =>
    have : b.toNat = 1 ∨ b.toNat = 2 ∨ b.toNat = 3 := by omega
    simpa using this
  · next outside => rw [if_neg outside] at h; exact nomatch h

theorem byte_toNat_le (b : Byte) : b.toNat ≤ 255 := Nat.le_of_lt_succ b.isLt

/-- What a loading write that is accepted stores is in the stored form (R22 to R24). -/
theorem storedNode_form {bytes : List Byte} {kind : NodeKind} (low : 2 ≤ (byteAt bytes 1).toNat)
    (high : (byteAt bytes 1).toNat ≤ 126) (role : roleFits (storedNode bytes kind) = true) :
    StoredForm (storedNode bytes kind) := by
  have latency : (storedNode bytes kind).latency ≤ 2000 := Nat.min_le_left 2000 _
  have threshold := byte_toNat_le (byteAt bytes 8)
  refine ⟨low, high, latency, ?_⟩
  have clamped : 1 ≤ max 1 (byteAt bytes 8).toNat ∧ max 1 (byteAt bytes 8).toNat ≤ 255 := by omega
  cases kind <;> simp_all [roleFits, storedNode, needsLane]
  exact positionOf_some role.2

theorem nodeLaw_write {s : State} {i : Fin 64} {bytes : List Byte} {entry : Option Node}
    (written : nodeWrite s i bytes = some entry) (h : NodeLaw s) : NodeLaw (s.setNodes (s.nodes.set i entry)) := by
  obtain ⟨stored, once, own⟩ := h
  have at' (j : Fin 64) : (s.setNodes (s.nodes.set i entry)).nodes[j] = if i = j then entry else s.nodes[j] := by
    simp only [State.setNodes_nodes, Fin.getElem_fin, Vector.getElem_set, Fin.ext_iff]
  have fresh {n : Node} (is : entry = some n) : StoredForm n.entry ∧ n.entry.station ≠ s.settings.station
      ∧ ∀ (j : Fin 64) (m : Node), j ≠ i → s.nodes[j] = some m → m.entry.station ≠ n.entry.station := by
    subst is
    obtain ⟨kind, fits, _, rfl, role⟩ := nodeWrite_some written
    obtain ⟨low, high, other, free⟩ := stationFits_iff.mp fits
    exact ⟨storedNode_form low high role, other, free⟩
  refine ⟨fun j n here => ?_, fun j k n m first second same => ?_, own⟩
  · rw [at'] at here
    split at here
    · exact ⟨(fresh here).1, (fresh here).2.1⟩
    · exact stored j n here
  · rw [at'] at first second
    split at first <;> split at second
    · next x y => rw [← x, ← y]
    · next x y => exact absurd same.symm ((fresh first).2.2 k m (Ne.symm y) second)
    · next x y => exact absurd same ((fresh second).2.2 j n (Ne.symm x) first)
    · exact once j k n m first second same

/-- A settings write leaves the station or gives one that is free (R160). -/
theorem settingWrite_station {s : State} {index : Nat} {b : Byte} {x : Settings}
    (written : settingWrite s index b = some x) : x.station = s.settings.station
      ∨ (isStation x.station = true ∧ findNode s.nodes x.station = none) := by
  unfold settingWrite at written
  dsimp only at written
  split at written
  · split at written
    · next fits =>
      cases written
      exact .inr ⟨by simp [isStation, fits], by simpa using fits.2.2⟩
    · exact nomatch written
  · split at written
    · cases written; exact .inl rfl
    · split at written
      · cases written; exact .inl rfl
      · exact nomatch written
  iterate 5
    split at written
    · cases written; exact .inl rfl
    · exact nomatch written
  exact nomatch written

/-- An empty node table under the default settings is in its form. -/
theorem nodeLaw_defaults {s : State} (nodes : s.nodes = Vector.replicate 64 none) (settings : s.settings = defaultSettings) :
    NodeLaw s := by
  have empty (i : Fin 64) : s.nodes[i] = none := by simp [nodes]
  refine ⟨fun i n here => ?_, fun i j n m here => ?_, by rw [settings]; decide⟩
  · exact nomatch (empty i).symm.trans here
  · exact nomatch (empty i).symm.trans here

theorem nodeLaw_kept : Kept NodeLaw where
  nodes _ same h := nodeLaw_same same rfl h
  node written h := nodeLaw_write written h
  setting {s} {index} {b} {x} {home} written _ h := by
    obtain ⟨stored, once, own⟩ := h
    rcases settingWrite_station written with same | ⟨station, free⟩
    · exact nodeLaw_same (s := s) (SameEntries.refl _) same ⟨stored, once, own⟩
    · exact ⟨fun i n here => ⟨(stored i n here).1, findNode_none.mp free i n here⟩, once, station⟩
  defaults _ _ := nodeLaw_defaults rfl rfl
  toKeptByChannel := .of_slot fun _ _ h => h
  reset := KeptByReset.timingReset (W := NodeLaw)
    { enter := fun {s} _ _ h => nodeLaw_same (s := s) (sameEntries_mapAll s.nodes _ fun _ => rfl) rfl h
      flush := fun h => h } {} {}

theorem nodeLaw_powerOn (strapHigh : Bool) (memory : Memory) (pending : List Instr) :
    NodeLaw (powerOnState strapHigh memory pending) := nodeLaw_defaults rfl rfl

theorem nodeLaw_keptBySteps : KeptBySteps NodeLaw NodeLaw where
  changes := nodeLaw_kept
  changesReserved := nodeLaw_kept
  reservation := { reserve := fun _ h => h, fill := fun _ _ h => h, flush := fun h => h }
  time _ h := h
  power _ _ _ := nodeLaw_powerOn _ _ _
  waiting _ h := h

/-- Settles O59: the node table changes in its runtime fields, by accepted writes and at the start of a load alone, and
the memory by byte writes. -/
theorem tablesKeepTheirForm : Obligations.TablesKeepTheirForm := ⟨nodeLaw_keptBySteps.kept, memoryLaw_keptBySteps.kept⟩

/-! ### The control channel (R152 to R156, R159) -/

/-- The timers of the channel are those that a claim, an owner, a mode and a load chain call for, and during the load the
channel rests with CONSOLE. -/
structure ChannelFits (o : OrderHandler) (mode : ChannelMode) (load : LoadState) : Prop where
  handover : o.handover.isSome = true ↔ o.claim.isSome = true ∧ o.chain = none
  home : o.home.isSome = true ↔ o.owner = .panel ∧ mode = .home ∧ o.chain = none
  rests : load = .loading → o.owner = .console ∧ o.claim = none ∧ o.chain = none

theorem channelLaw_iff {s : State} : ChannelLaw s ↔ ChannelFits s.orders s.settings.mode s.loader.load :=
  ⟨fun ⟨handover, home, rests⟩ => ⟨handover, home, rests⟩, fun ⟨handover, home, rests⟩ => ⟨handover, home, rests⟩⟩

theorem homeTimed {s : State} : (s.settings.mode = .home ∧ s.orders.owner = .panel ∧ s.orders.chain.isNone = true) ↔
    s.orders.owner = .panel ∧ s.settings.mode = .home ∧ s.orders.chain = none := by
  rw [Option.isNone_iff_eq_none]
  exact and_left_comm

/-- The handover timer started where a claim is live and no chain open, and the home timer where PANEL owns the channel in
HOME mode: the law of the channel holds, whether the timers ran before or were stopped. -/
theorem channelLaw_startTimers {s : State}
    (handover : s.orders.handover.isSome = true → s.orders.claim.isSome = true ∧ s.orders.chain = none)
    (home : s.orders.home.isSome = true → s.orders.owner = .panel ∧ s.settings.mode = .home ∧ s.orders.chain = none)
    (rests : s.loader.load = .loading → s.orders.owner = .console ∧ s.orders.claim = none ∧ s.orders.chain = none) :
    ChannelLaw (startHome (startHandover s)) := by
  have handed : (startHandover s).orders.owner = s.orders.owner ∧ (startHandover s).orders.claim = s.orders.claim
      ∧ (startHandover s).orders.chain = s.orders.chain ∧ (startHandover s).orders.home = s.orders.home
      ∧ (startHandover s).settings = s.settings ∧ (startHandover s).loader = s.loader
      ∧ ((startHandover s).orders.handover.isSome = true ↔ s.orders.claim.isSome = true ∧ s.orders.chain = none) := by
    unfold startHandover setHandover
    split
    · next live => exact ⟨rfl, rfl, rfl, rfl, rfl, rfl, by simpa using live⟩
    · next dead => exact ⟨rfl, rfl, rfl, rfl, rfl, rfl, handover, fun live => absurd (by simpa using live) dead⟩
  generalize startHandover s = u at handed
  obtain ⟨owner, claim, chain, home', settings, loader, runs⟩ := handed
  rw [← owner, ← claim, ← chain, ← loader] at rests
  rw [← owner, ← home', ← chain, ← settings] at home
  rw [← claim, ← chain] at runs
  unfold startHome
  split
  · next owns => exact ⟨runs, ⟨fun _ => homeTimed.mp owns, fun _ => rfl⟩, rests⟩
  · next away => exact ⟨runs, ⟨home, fun owns => absurd (homeTimed.mpr owns) away⟩, rests⟩

/-- The law holds again where only the home timer has to be started. -/
theorem channelLaw_startHome {s : State}
    (handover : s.orders.handover.isSome = true ↔ s.orders.claim.isSome = true ∧ s.orders.chain = none)
    (home : s.orders.home.isSome = true → s.orders.owner = .panel ∧ s.settings.mode = .home ∧ s.orders.chain = none)
    (rests : s.loader.load = .loading → s.orders.owner = .console ∧ s.orders.claim = none ∧ s.orders.chain = none) :
    ChannelLaw (startHome s) := by
  unfold startHome
  split
  · next owns => exact ⟨handover, ⟨fun _ => homeTimed.mp owns, fun _ => rfl⟩, rests⟩
  · next away => exact ⟨handover, ⟨home, fun owns => absurd (homeTimed.mpr owns) away⟩, rests⟩

/-- A live claim is none of the load. -/
theorem not_loading_of_claim {s : State} (h : ChannelLaw s) (claim : s.orders.claim.isSome = true) :
    s.loader.load ≠ .loading := fun loading => by
  rw [(h.2.2 loading).2.1] at claim
  exact nomatch claim

theorem channelLaw_keptByChannel : KeptByChannel ChannelLaw where
  ownerOrder h := channelLaw_startTimers h.1.mp h.2.1.mp h.2.2
  claim {s} loaded h := by
    obtain ⟨handover, home, _⟩ := h
    have loaded' : s.loader.load ≠ .loading := by rw [loaded]; exact nofun
    unfold registerClaim
    dsimp only
    split
    · next live =>
      exact ⟨⟨fun runs => ⟨rfl, (handover.mp runs).2⟩, fun ⟨_, chain⟩ => handover.mpr ⟨live, chain⟩⟩, home,
        fun loading => absurd loading loaded'⟩
    · next dead =>
      have stopped : s.orders.handover.isSome ≠ true := fun runs => dead (handover.mp runs).1
      unfold startHandover setHandover
      split
      · next opens => exact ⟨by simpa using opens, home, fun loading => absurd loading loaded'⟩
      · next closed =>
        refine ⟨⟨fun runs => absurd runs stopped, fun ⟨_, chain⟩ => ?_⟩, home, fun loading => absurd loading loaded'⟩
        exact absurd ⟨rfl, Option.isNone_iff_eq_none.mpr chain⟩ closed
  drop h := ⟨⟨nofun, fun ⟨claim, _⟩ => nomatch claim⟩, h.2.1,
    fun loading => ⟨(h.2.2 loading).1, rfl, (h.2.2 loading).2.2⟩⟩
  handOver {s} claim h := channelLaw_startHome ⟨nofun, fun ⟨claim, _⟩ => nomatch claim⟩ nofun
    fun loading => absurd loading (not_loading_of_claim (s := s) h claim)
  goHome h := channelLaw_startHome ⟨nofun, fun ⟨claim, _⟩ => nomatch claim⟩ nofun
    fun loading => ⟨rfl, rfl, (h.2.2 loading).2.2⟩
  noHandover runs dead h := by
    obtain ⟨claim, chain⟩ := h.1.mp runs
    exact absurd ⟨claim, Option.isNone_iff_eq_none.mpr chain⟩ dead
  openChain {s} c loaded h := ⟨⟨nofun, fun ⟨_, chain⟩ => nomatch chain⟩, ⟨nofun, fun ⟨_, _, chain⟩ => nomatch chain⟩,
    fun loading => nomatch loaded.symm.trans loading⟩
  chain {s} c opened h := by
    have isOpen : s.orders.chain ≠ none := by rw [← Option.isSome_iff_ne_none]; exact opened
    refine ⟨⟨fun runs => absurd (h.1.mp runs).2 isOpen, fun ⟨_, chain⟩ => nomatch chain⟩,
      ⟨fun runs => absurd (h.2.1.mp runs).2.2 isOpen, fun ⟨_, _, chain⟩ => nomatch chain⟩,
      fun loading => absurd (h.2.2 loading).2.2 isOpen⟩
  closeChain {s} h := channelLaw_startTimers (fun runs => ⟨(h.1.mp runs).1, rfl⟩)
    (fun runs => ⟨(h.2.1.mp runs).1, (h.2.1.mp runs).2.1, rfl⟩)
    (fun loading => ⟨(h.2.2 loading).1, (h.2.2 loading).2.1, rfl⟩)

theorem settingWrite_mode {s : State} {index : Nat} {b : Byte} {x : Settings} (other : index ≠ 1)
    (written : settingWrite s index b = some x) : x.mode = s.settings.mode := by
  unfold settingWrite at written
  dsimp only at written
  split at written
  · split at written
    · cases written; rfl
    · exact nomatch written
  · exact absurd rfl other
  iterate 5
    split at written
    · cases written; rfl
    · exact nomatch written
  exact nomatch written

theorem channelLaw_kept : Kept ChannelLaw where
  toKeptByChannel := channelLaw_keptByChannel
  setting {s} {index} {b} {x} {home} written eq h := by
    rw [← eq]
    unfold followMode
    split
    · next other =>
      have mode := settingWrite_mode other written
      exact ⟨h.1, (show _ ↔ _ ∧ x.mode = .home ∧ _ by rw [mode]; exact h.2.1), h.2.2⟩
    · split
      · next park =>
        have park : x.mode = .park := park
        refine ⟨h.1, ⟨nofun, fun ⟨_, mode, _⟩ => ?_⟩, h.2.2⟩
        exact nomatch park.symm.trans mode
      · next away =>
        refine channelLaw_startHome h.1 (fun runs => ?_) h.2.2
        have mode : x.mode = .home := by
          cases is : x.mode with
          | park => exact absurd is away
          | home => rfl
        exact ⟨(h.2.1.mp runs).1, mode, (h.2.1.mp runs).2.2⟩
  defaults {s} loading h := by
    obtain ⟨handover, home, rests⟩ := h
    refine ⟨handover, ⟨fun runs => ?_, fun ⟨_, mode, _⟩ => nomatch mode⟩, rests⟩
    have owns := (home.mp runs).1
    rw [(rests loading).1] at owns
    exact nomatch owns
  loader l _ same h := ⟨h.1, h.2.1, fun loading => h.2.2 (same loading)⟩
  reset := KeptByReset.timingReset (W := ChannelLaw)
    { enter := fun {s} home is h => by
        have started : ChannelLaw (resetOrders s) :=
          channelLaw_startHome ⟨nofun, fun ⟨claim, _⟩ => nomatch claim⟩ nofun
            fun loading => ⟨(h.2.2 loading).1, rfl, rfl⟩
        rw [resetOrders_eq, is] at started
        exact started
      flush := fun h => h } {} {}

theorem channelLaw_powerOn (strapHigh : Bool) (memory : Memory) (pending : List Instr) :
    ChannelLaw (powerOnState strapHigh memory pending) :=
  ⟨⟨nofun, fun ⟨claim, _⟩ => nomatch claim⟩, ⟨nofun, fun ⟨owner, _⟩ => nomatch owner⟩, fun _ => ⟨rfl, rfl, rfl⟩⟩

theorem channelLaw_keptBySteps : KeptBySteps ChannelLaw ChannelLaw where
  changes := channelLaw_kept
  changesReserved := channelLaw_kept
  reservation := { reserve := fun _ h => h, fill := fun _ _ h => h, flush := fun h => h }
  time now h := by
    obtain ⟨handover, home, rests⟩ := h
    refine ⟨?_, ?_, ?_⟩ <;> simpa only [advanceTo, runOrders, Option.isSome_map, Option.map_eq_none_iff]
  power _ _ _ := channelLaw_powerOn _ _ _
  waiting _ h := h

/-- Settles O60: each change of the channel starts and stops the timers that the law then calls for. -/
theorem channelLawKept : Obligations.ChannelLawKept := channelLaw_keptBySteps.kept

/-! ### The deck command queue (R19, R20, R146, R161, R162) -/

/-- Is a telegram of the deck command queue a LAMP? -/
def isLamp (e : DeckEntry) : Bool := allLanes.any fun lane => isLampOf lane e

theorem isLamp_iff {e : DeckEntry} : isLamp e = true ↔ ∃ lane, e.origin = .lamp lane := by
  simp [isLamp, isLampOf, allLanes]

theorem isLampFor_iff {station : Byte} {e : DeckEntry} :
    isLampFor station e = true ↔ isLamp e = true ∧ e.telegram.dest = station := by
  rw [isLamp_iff]
  unfold isLampFor
  cases origin : e.origin <;> simp

/-- The telegrams of a class other than LAMP. -/
def ofClass (c : DeckClass) (queue : List DeckEntry) : List DeckEntry := queue.filter fun e => e.origin == c

/-- The stations of the LAMPs queued, in the order of the queue. -/
def lampStations (queue : List DeckEntry) : List Byte := (queue.filter isLamp).map fun e => e.telegram.dest

/-- A LAMP changes no other class of the queue. -/
theorem ofClass_withLamp {c : DeckClass} {lane : Lane} {t : Telegram} (other : ∀ lane, c ≠ .lamp lane)
    (queue : List DeckEntry) : ofClass c (withLamp ⟨.lamp lane, t⟩ queue) = ofClass c queue := by
  have new : ((⟨.lamp lane, t⟩ : DeckEntry).origin == c) = false := by simpa using Ne.symm (other lane)
  unfold withLamp ofClass
  split
  · next listed =>
    clear listed
    induction queue with
    | nil => rfl
    | cons q rest ih =>
      rw [List.map_cons]
      split
      · next lamp =>
        obtain ⟨l, is⟩ := isLamp_iff.mp (isLampFor_iff.mp lamp).1
        have old : (q.origin == c) = false := by rw [is]; simpa using Ne.symm (other l)
        rw [List.filter_cons_of_neg (by simp [new]), List.filter_cons_of_neg (by simp [old]), ih]
      · rw [List.filter_cons, List.filter_cons, ih]
  · rw [List.filter_append, List.filter_cons_of_neg (by simp [new]), List.filter_nil, List.append_nil]

theorem lampStations_withLamp {lane : Lane} {t : Telegram} (queue : List DeckEntry) :
    lampStations (withLamp ⟨.lamp lane, t⟩ queue) =
      if t.dest ∈ lampStations queue then lampStations queue else lampStations queue ++ [t.dest] := by
  have new : isLamp ⟨.lamp lane, t⟩ = true := isLamp_iff.mpr ⟨lane, rfl⟩
  have queued : queue.any (isLampFor t.dest) = true ↔ t.dest ∈ lampStations queue := by
    simp only [List.any_eq_true, isLampFor_iff, lampStations, List.mem_map, List.mem_filter, and_assoc]
  unfold withLamp
  by_cases here : queue.any (isLampFor t.dest) = true
  · rw [if_pos here, if_pos (queued.mp here)]
    clear queued here
    induction queue with
    | nil => rfl
    | cons q rest ih =>
      unfold lampStations at ih ⊢
      rw [List.map_cons]
      split
      · next lamp =>
        obtain ⟨old, dest⟩ := isLampFor_iff.mp lamp
        rw [List.filter_cons_of_pos new, List.filter_cons_of_pos old, List.map_cons, List.map_cons, ih, dest]
      · rw [List.filter_cons, List.filter_cons]
        split
        · rw [List.map_cons, List.map_cons, ih]
        · exact ih
  · rw [if_neg here, if_neg (mt queued.mpr here)]
    simp [lampStations, new]

/-- What a queue holds once a LAMP of a lane has come: the LAMP, and the others as they were but those for its station. -/
theorem mem_withLamp {e q : DeckEntry} {queue : List DeckEntry} (mem : q ∈ withLamp e queue) :
    q = e ∨ (q ∈ queue ∧ isLampFor e.telegram.dest q = false) := by
  unfold withLamp at mem
  split at mem
  · obtain ⟨old, queued, is⟩ := List.mem_map.mp mem
    split at is
    · exact .inl is.symm
    · next other => exact .inr ⟨is ▸ queued, by rw [← is]; simpa using other⟩
  · next none =>
    rcases List.mem_append.mp mem with queued | new
    · exact .inr ⟨queued, by simpa using fun h => none (List.any_eq_true.mpr ⟨q, queued, h⟩)⟩
    · exact .inl (List.mem_singleton.mp new)

/-- The parts of the law of the deck command queue, each about one class of its telegrams. -/
structure DeckFits (queue : List DeckEntry) (onLine : Bool) (records : Vector LampRecord 10) (slot : QuerySlot) :
    Prop where
  passThrough : (ofClass .passThrough queue).length ≤ 4
  lamps : (lampStations queue).Nodup
  recorded : ∀ (e : DeckEntry) (lane : Lane), e ∈ queue → e.origin = .lamp lane →
    records[lane].recorded = some e.telegram.dest
  response : (ofClass .response queue).length ≤ 1
  queries : (ofClass .query queue).length + (if onLine then 1 else 0) ≤ 1
  waits : (ofClass .query queue).length + (if onLine then 1 else 0) = 1 → ∃ q, slot = .waiting q none

theorem deckLaw_iff {s : State} :
    DeckLaw s ↔ DeckFits s.deck.queue s.deck.queryOnLine s.lamps.records s.orders.slot :=
  ⟨fun ⟨pass, lamps, recorded, response, queries, waits⟩ => ⟨pass, lamps, recorded, response, queries, waits⟩,
   fun ⟨pass, lamps, recorded, response, queries, waits⟩ => ⟨pass, lamps, recorded, response, queries, waits⟩⟩

/-- A telegram that is no LAMP, behind the queue. -/
theorem lampStations_join {e : DeckEntry} (other : ∀ lane, e.origin ≠ .lamp lane) (queue : List DeckEntry) :
    lampStations (queue ++ [e]) = lampStations queue := by
  have noLamp : ¬ isLamp e = true := fun h => by
    obtain ⟨lane, is⟩ := isLamp_iff.mp h
    exact other lane is
  simp [lampStations, noLamp]

theorem ofClass_join (c : DeckClass) (e : DeckEntry) (queue : List DeckEntry) :
    (ofClass c (queue ++ [e])).length = (ofClass c queue).length + if e.origin = c then 1 else 0 := by
  unfold ofClass
  rw [List.filter_append, List.length_append]
  split
  · next is => simp [is]
  · next other => simp [other]

theorem DeckFits.produce {s : State} {lane : Lane} {station : Byte} {r : LampRecord} {t : Telegram}
    (recorded : r.recorded = some station) (dest : t.dest = station)
    (fits : LampsQueuedFor s lane station ∨ s.lamps.records[lane].recorded = some station)
    (h : DeckFits s.deck.queue s.deck.queryOnLine s.lamps.records s.orders.slot) :
    DeckFits (withLamp ⟨.lamp lane, t⟩ s.deck.queue) s.deck.queryOnLine (setLamp lane r s).lamps.records
      s.orders.slot where
  passThrough := by rw [ofClass_withLamp (c := .passThrough) fun _ => nofun]; exact h.passThrough
  lamps := by
    rw [lampStations_withLamp]
    split
    · exact h.lamps
    · next new =>
      rw [List.nodup_append]
      exact ⟨h.lamps, List.nodup_cons.mpr ⟨List.not_mem_nil, List.nodup_nil⟩, fun a mem b is same => new (List.mem_singleton.mp is ▸ same ▸ mem)⟩
  recorded := by
    intro e l mem is
    rw [setLamp_record]
    rcases mem_withLamp mem with rfl | ⟨queued, away⟩
    · cases is
      rw [if_pos rfl, recorded, dest]
    · split
      · next same =>
        subst same
        have here : e.telegram.dest = station := by
          rcases fits with all | old
          · exact all e queued is
          · exact Option.some.inj ((h.recorded e lane queued is).symm.trans old)
        have lamp : isLampFor t.dest e = true :=
          isLampFor_iff.mpr ⟨isLamp_iff.mpr ⟨lane, is⟩, here.trans dest.symm⟩
        exact nomatch lamp.symm.trans away
      · exact h.recorded e l queued is
  response := by rw [ofClass_withLamp (c := .response) fun _ => nofun]; exact h.response
  queries := by rw [ofClass_withLamp (c := .query) fun _ => nofun]; exact h.queries
  waits := by rw [ofClass_withLamp (c := .query) fun _ => nofun]; exact h.waits

theorem DeckFits.join {queue : List DeckEntry} {onLine : Bool} {records : Vector LampRecord 10} {slot : QuerySlot}
    {e : DeckEntry} (h : DeckFits queue onLine records slot) (class' : e.origin = .response ∨ e.origin = .passThrough)
    (pass : e.origin = .passThrough → (ofClass .passThrough queue).length < 4)
    (response : e.origin = .response → (ofClass .response queue).length = 0) :
    DeckFits (queue ++ [e]) onLine records slot := by
  have other (lane : Lane) : e.origin ≠ .lamp lane := by rcases class' with is | is <;> rw [is] <;> exact nofun
  have noQuery : e.origin ≠ .query := by rcases class' with is | is <;> rw [is] <;> exact nofun
  have queries : (ofClass .query (queue ++ [e])).length = (ofClass .query queue).length := by
    rw [ofClass_join, if_neg noQuery]; rfl
  refine ⟨?_, lampStations_join other queue ▸ h.lamps, fun q lane mem is => ?_, ?_, by rw [queries]; exact h.queries,
    by rw [queries]; exact h.waits⟩
  · rw [ofClass_join]
    split
    · next is => exact pass is
    · exact h.passThrough
  · rcases List.mem_append.mp mem with queued | new
    · exact h.recorded q lane queued is
    · rw [List.mem_singleton.mp new] at is
      exact absurd is (other lane)
  · rw [ofClass_join]
    split
    · next is => exact Nat.le_of_eq (by rw [response is])
    · exact h.response

theorem DeckFits.tail {e : DeckEntry} {rest : List DeckEntry} {onLine : Bool} {records : Vector LampRecord 10}
    {slot : QuerySlot} (h : DeckFits (e :: rest) onLine records slot) :
    DeckFits rest (onLine || e.origin == .query) records slot := by
  have sub : rest.Sublist (e :: rest) := List.sublist_cons_self e rest
  have queries : (ofClass .query (e :: rest)).length + (if onLine then 1 else 0) =
      (ofClass .query rest).length + if (onLine || e.origin == .query) = true then 1 else 0 := by
    have bound := h.queries
    unfold ofClass at bound ⊢
    by_cases is : e.origin = .query <;> cases onLine <;> simp_all
  exact ⟨Nat.le_trans (sub.filter _).length_le h.passThrough, ((sub.filter _).map _).nodup h.lamps,
    fun q lane mem is => h.recorded q lane (List.mem_cons_of_mem e mem) is,
    Nat.le_trans (sub.filter _).length_le h.response, queries ▸ h.queries, queries ▸ h.waits⟩

/-- A slot that waits for no QUERY to be sent has none under way. -/
theorem DeckFits.idle {queue : List DeckEntry} {onLine : Bool} {records : Vector LampRecord 10} {slot : QuerySlot}
    (h : DeckFits queue onLine records slot) (other : ∀ q, slot ≠ .waiting q none) :
    (ofClass .query queue).length + (if onLine then 1 else 0) = 0 := by
  have bound := h.queries
  have waits := h.waits
  refine Classical.byContradiction fun under => ?_
  obtain ⟨q, is⟩ := waits (by omega)
  exact other q is

theorem DeckFits.withSlot {queue : List DeckEntry} {onLine : Bool} {records : Vector LampRecord 10} {slot : QuerySlot}
    (h : DeckFits queue onLine records slot) (slot' : QuerySlot)
    (idle : (ofClass .query queue).length + (if onLine then 1 else 0) = 0) : DeckFits queue onLine records slot' :=
  { h with waits := fun under => by omega }

theorem deckFits_empty (records : Vector LampRecord 10) (slot : QuerySlot) : DeckFits [] false records slot :=
  ⟨Nat.zero_le _, List.nodup_nil, nofun, Nat.zero_le _, Nat.zero_le _, nofun⟩

theorem deckLaw_keptByLamps : KeptByLamps DeckLaw where
  lamps {s} x same h := by
    have fits := deckLaw_iff.mp h
    have recorded (e : DeckEntry) (lane : Lane) (mem : e ∈ s.deck.queue) (is : e.origin = .lamp lane) :
        x.records[lane].recorded = some e.telegram.dest := (same lane).trans (fits.recorded e lane mem is)
    exact deckLaw_iff.mpr { fits with recorded := recorded }
  produce r t recorded dest fits h := deckLaw_iff.mpr ((deckLaw_iff.mp h).produce recorded dest fits)

theorem deckLaw_kept : Kept DeckLaw where
  toKeptByLamps := deckLaw_keptByLamps
  schedule d queue line h := by
    have fits := deckLaw_iff.mp h
    rw [← queue, ← line] at fits
    exact deckLaw_iff.mpr fits
  joins {s} {e} {queue} admitted class' h := by
    have fits := deckLaw_iff.mp h
    refine deckLaw_iff.mpr ?_
    show DeckFits queue _ _ _
    unfold insertDeck at admitted
    split at admitted
    · next is => rw [is] at class'; rcases class' with h | h <;> exact nomatch h
    · next is => rw [is] at class'; rcases class' with h | h <;> exact nomatch h
    · next is =>
      cases admitted
      split
      · exact fits
      · next none =>
        refine fits.join class' (fun h => nomatch is.symm.trans h) fun _ => ?_
        have empty : ofClass .response s.deck.queue = [] := by
          simpa [ofClass, List.filter_eq_nil_iff] using none
        rw [empty]
        rfl
    · next is =>
      split at admitted
      · next room =>
        cases admitted
        exact fits.join class' (fun _ => room) fun h => nomatch is.symm.trans h
      · exact nomatch admitted
  asks {s} q t free h := by
    have fits := deckLaw_iff.mp h
    have idle := fits.idle fun q => by rw [free]; exact nofun
    have same (c : DeckClass) (other : c ≠ .query) : (ofClass c (s.deck.queue ++ [⟨.query, t⟩])).length =
        (ofClass c s.deck.queue).length := by
      rw [ofClass_join, if_neg (Ne.symm other)]
      rfl
    refine deckLaw_iff.mpr ⟨?_, ?_, fun e lane mem is => ?_, ?_, ?_, fun _ => ⟨q, rfl⟩⟩
    · exact (same .passThrough nofun).symm ▸ fits.passThrough
    · exact lampStations_join (e := ⟨.query, t⟩) (fun _ => nofun) s.deck.queue ▸ fits.lamps
    · rcases List.mem_append.mp mem with queued | new
      · exact fits.recorded e lane queued is
      · rw [List.mem_singleton.mp new] at is
        exact nomatch is
    · exact (same .response nofun).symm ▸ fits.response
    · show (ofClass .query (s.deck.queue ++ [⟨.query, t⟩])).length + (if s.deck.queryOnLine then 1 else 0) ≤ 1
      rw [ofClass_join, if_pos rfl]
      omega
  sends line queue h := by
    have fits := deckLaw_iff.mp h
    rw [queue] at fits
    exact deckLaw_iff.mpr fits.tail
  sent {s} slot onLine _ h := by
    have fits := deckLaw_iff.mp h
    rw [onLine] at fits
    have none : (ofClass .query s.deck.queue).length = 0 := by simpa using fits.queries
    refine deckLaw_iff.mpr ⟨fits.passThrough, fits.lamps, fits.recorded, fits.response, ?_, fun under => ?_⟩
    · show (ofClass .query s.deck.queue).length + 0 ≤ 1
      omega
    · have under : (ofClass .query s.deck.queue).length + 0 = 1 := under
      omega
  held result collection waiting h := by
    have fits := deckLaw_iff.mp h
    exact deckLaw_iff.mpr (fits.withSlot _ (fits.idle fun q => by rw [waiting]; exact nofun))
  freed held h := by
    have fits := deckLaw_iff.mp h
    exact deckLaw_iff.mpr (fits.withSlot _ (fits.idle fun q => by rw [held]; exact nofun))
  toKeptByChannel := .of_slot fun x same h => by
    have fits := deckLaw_iff.mp h
    rw [← same] at fits
    exact deckLaw_iff.mpr fits
  -- The slot is free before the flush of its QUERY, so that the law is broken between the two.
  reset := KeptByReset.timingReset (W := fun _ => True)
    { enter := fun _ _ _ => trivial, flush := fun {s} _ => deckLaw_iff.mpr (deckFits_empty s.lamps.records s.orders.slot) }
    deckLaw_keptByLamps {}

theorem deckLaw_powerOn (strapHigh : Bool) (memory : Memory) (pending : List Instr) :
    DeckLaw (powerOnState strapHigh memory pending) := deckLaw_iff.mpr (deckFits_empty _ _)

theorem deckLaw_keptBySteps : KeptBySteps DeckLaw DeckLaw where
  changes := deckLaw_kept
  changesReserved := deckLaw_kept
  reservation := { reserve := fun _ h => h, fill := fun _ _ h => h, flush := fun h => h }
  time {s} now h := by
    have fits := deckLaw_iff.mp h
    refine deckLaw_iff.mpr { fits with waits := fun under => ?_ }
    obtain ⟨q, is⟩ := fits.waits under
    exact ⟨q, by simp [advanceTo, runOrders, is, runSlot]⟩
  power _ _ _ := deckLaw_powerOn _ _ _
  waiting _ h := h

/-- The telegrams of the deck command queue by class: LAMPs, and the three other classes. -/
theorem deckQueue_length (queue : List DeckEntry) : queue.length = (lampStations queue).length
    + (ofClass .query queue).length + (ofClass .response queue).length + (ofClass .passThrough queue).length := by
  induction queue with
  | nil => rfl
  | cons e rest ih =>
    have lamp : isLamp e = true ↔ ∃ lane, e.origin = .lamp lane := isLamp_iff
    simp only [lampStations, ofClass, List.length_map, List.filter_cons, List.length_cons] at ih ⊢
    cases origin : e.origin <;> rw [origin] at lamp <;> simp_all <;> omega

/-- A list without repetition is no longer than one that holds all its members. -/
theorem length_le_of_subset {α : Type} [DecidableEq α] {list whole : List α} (once : list.Nodup) (within : list ⊆ whole) :
    list.length ≤ whole.length := by
  induction list generalizing whole with
  | nil => exact Nat.zero_le _
  | cons a rest ih =>
    obtain ⟨fresh, once'⟩ := List.nodup_cons.mp once
    have here : a ∈ whole := within List.mem_cons_self
    have less : rest ⊆ whole.erase a := fun b mem =>
      (List.mem_erase_of_ne fun is => fresh (by rw [← is]; exact mem)).mpr (within (List.mem_cons_of_mem a mem))
    have shorter := ih once' less
    rw [List.length_erase_of_mem here] at shorter
    have := List.length_pos_of_mem here
    rw [List.length_cons]
    omega

/-- No more LAMPs than lanes are queued, each for the station recorded for its lane. -/
theorem DeckFits.lampCount {queue : List DeckEntry} {onLine : Bool} {records : Vector LampRecord 10} {slot : QuerySlot}
    (h : DeckFits queue onLine records slot) : (lampStations queue).length ≤ 10 := by
  have within : (lampStations queue).map some ⊆ records.toList.map LampRecord.recorded := by
    intro station mem
    obtain ⟨dest, stationMem, rfl⟩ := List.mem_map.mp mem
    obtain ⟨e, lampMem, rfl⟩ := List.mem_map.mp stationMem
    obtain ⟨queued, lamp⟩ := List.mem_filter.mp lampMem
    obtain ⟨lane, is⟩ := isLamp_iff.mp lamp
    refine List.mem_map.mpr ⟨records[lane], ?_, h.recorded e lane queued is⟩
    exact Vector.mem_toList_iff.mpr (Vector.getElem_mem lane.isLt)
  have distinct : ((lampStations queue).map some).Nodup :=
    List.pairwise_map.mpr (h.lamps.imp fun differ same => differ (Option.some.inj same))
  have bound := length_le_of_subset distinct within
  rwa [List.length_map, List.length_map, Vector.length_toList] at bound

/-- Settles O57: the bounds of both queues are kept by every change of them, and the classes of the deck command queue
come to 10 LAMPs, a QUERY, a RESPONSE and four pass-through telegrams. -/
theorem queueLawsKept : Obligations.QueueLawsKept := by
  refine ⟨boardLaw_kept, deckLaw_keptBySteps.kept, fun s h => ?_⟩
  have fits := deckLaw_iff.mp h
  have total := deckQueue_length s.deck.queue
  have lamps := fits.lampCount
  have queries := fits.queries
  have response := fits.response
  have passThrough := fits.passThrough
  omega

/-- Settles O56: POWER-ON leaves every law kept, reset's blank memory included. -/
theorem resetKeepsTheLaws : Obligations.ResetKeepsTheLaws :=
  ⟨⟨rfl, Nat.zero_le 32, List.nodup_nil⟩, raceLaw_powerOn _ _ _, nodeLaw_powerOn _ _ _, channelLaw_powerOn _ _ _,
    deckLaw_powerOn _ _ _, splitLaw_powerOn _ _ _, reset_memory_wf⟩

end Sys2Proof.Machine
end
section
/-! Steps, tick arithmetic, the telegram check, and the configuration memory: what a write of the image leaves there. -/

namespace Sys2Proof.Machine

/-! ### Steps and ticks -/

/-- Settles O1: the queue's rest is the queue as it stood before the command joined it. -/
theorem stepTakesFrontCommand : Obligations.StepTakesFrontCommand :=
  ⟨fun _ _ => rfl, fun s idle => by unfold step; rw [idle]⟩

theorem tickDiff_toNat (a b : Tick) : tickDiff b a =
    let d := (b.toNat + 4294967296 - a.toNat) % 4294967296
    if d ≤ 2147483647 then (d : Int) else (d : Int) - 4294967296 := by
  have value : (b - a).toNat = (b.toNat + 4294967296 - a.toNat) % 4294967296 := by
    rw [BitVec.toNat_sub]
    have := a.isLt
    congr 1
    omega
  unfold tickDiff
  rw [BitVec.toInt_eq_toNat_cond, value]
  dsimp only
  split <;> split <;> omega

theorem tickDiff_add (a : Tick) (d : Int) (low : -2147483648 ≤ d) (high : d ≤ 2147483647) :
    tickDiff (a + BitVec.ofInt 32 d) a = d := by
  unfold tickDiff
  rw [BitVec.add_comm, BitVec.add_sub_cancel, BitVec.toInt_ofInt]
  exact Int.bmod_eq_of_le (by omega) (by omega)

theorem eventTick_toNat (arrival : Tick) {latency age : Nat} (latencyBound : latency ≤ 2000) (ageBound : age ≤ 4095) :
    (eventTick arrival latency age).toNat = (arrival.toNat + 4294967296 - latency - 10 * age) % 4294967296 := by
  unfold eventTick
  simp only [BitVec.toNat_sub, BitVec.toNat_ofNat]
  omega

/-- Settles O3: ticks are compared and counted back as numbers below 2^32. -/
theorem tickArithmetic : Obligations.TickArithmetic := by
  refine ⟨⟨fun a b => tickDiff_toNat a b, tickDiff_add⟩, fun arrival latency age latencyBound ageBound => ?_⟩
  have event := eventTick_toNat arrival latencyBound ageBound
  have diff := tickDiff_toNat (eventTick arrival latency age) arrival
  have bound := arrival.isLt
  have back : (arrival.toNat + 4294967296 - (eventTick arrival latency age).toNat) % 4294967296 = latency + 10 * age := by
    omega
  dsimp only at diff
  rw [back, if_pos (by omega)] at diff
  exact ⟨event, by omega, by omega⟩

/-- Settles O4: each block is read off `powerOnState`. -/
theorem powerOnResetsEveryBlock : Obligations.PowerOnResetsEveryBlock := by
  refine ⟨fun strapHigh written s => ⟨powerOnState strapHigh (memoryAtPowerOn written s.loader) s.pending, rfl, rfl, ?_⟩,
    rfl⟩
  have patterns (p : Fin 3) : (powerOnState strapHigh (memoryAtPowerOn written s.loader) s.pending).lamps.patterns[p] =
      freshPattern (if p = 0 then steadyPattern else darkPattern) := by
    match p with
    | 0 => rfl
    | 1 => rfl
    | 2 => rfl
  have idle (save : s.loader.save = .idle) : memoryAtPowerOn written s.loader = s.loader.memory := by
    unfold memoryAtPowerOn
    rw [save]
  simp only [patterns]
  simp [powerOnState, emptyBank, unwrittenLaneEntry, freshPattern, defaultNotice, freshCounter]
  exact idle

/-! ### The telegram check (R2) -/

/-- The check's shift is linear over exclusive or. -/
theorem crcShift_xor (x y : BitVec 16) : crcShift (x ^^^ y) = crcShift x ^^^ crcShift y := by
  unfold crcShift
  rw [BitVec.msb_xor, BitVec.shiftLeft_xor_distrib]
  have twice (g a : BitVec 16) : g ^^^ (g ^^^ a) = a := by rw [← BitVec.xor_assoc, BitVec.xor_self, BitVec.zero_xor]
  cases x.msb <;> cases y.msb <;> simp [BitVec.xor_assoc, BitVec.xor_comm (y <<< 1), twice]

/-- No nonzero register shifts to zero: the generator ends in a one, which a shift leaves clear. -/
theorem crcShift_eq_zero {x : BitVec 16} (h : crcShift x = 0#16) : x = 0#16 := by
  unfold crcShift at h
  split at h
  · have low := congrArg (fun v => v.getLsbD 0) h
    simp at low
  · next top =>
    apply BitVec.eq_of_getLsbD_eq
    intro i within
    by_cases last : i = 15
    · subst last
      simpa [BitVec.msb_eq_getLsbD_last] using top
    · have bit := congrArg (fun v => v.getLsbD (i + 1)) h
      rw [BitVec.getLsbD_shiftLeft] at bit
      simpa [show i + 1 < 16 by omega, ← BitVec.getLsbD_eq_getElem] using bit

/-- Eight shifts: what a byte of the check does to the register. -/
def crcTurn (x : BitVec 16) : BitVec 16 :=
  crcShift (crcShift (crcShift (crcShift (crcShift (crcShift (crcShift (crcShift x)))))))

theorem crcByte_eq (crc : BitVec 16) (b : Byte) : crcByte crc b = crcTurn (crc ^^^ (b.setWidth 16 <<< 8)) := rfl

theorem crcTurn_xor (x y : BitVec 16) : crcTurn (x ^^^ y) = crcTurn x ^^^ crcTurn y := by
  simp only [crcTurn, crcShift_xor]

theorem crcTurn_eq_zero {x : BitVec 16} : crcTurn x = 0#16 ↔ x = 0#16 := by
  constructor
  · intro h
    unfold crcTurn at h
    iterate 8 replace h := crcShift_eq_zero h
    exact h
  · rintro rfl
    rfl

/-- A byte at the low end of the register leaves it at the high end, with no generator subtracted. -/
theorem crcTurn_byte (b : Byte) : crcTurn (b.setWidth 16) = b.setWidth 16 <<< 8 := by
  have shift (k : Nat) (small : k < 8) : crcShift (b.setWidth 16 <<< k) = b.setWidth 16 <<< (k + 1) := by
    have clear : (b.setWidth 16 <<< k).msb = false := by
      simp only [BitVec.msb_eq_getLsbD_last, BitVec.getLsbD_shiftLeft, BitVec.getLsbD_setWidth]
      rw [BitVec.getLsbD_of_ge b _ (by omega)]
      simp
    rw [crcShift, clear, if_neg nofun, BitVec.shiftLeft_add]
  have start : b.setWidth 16 = b.setWidth 16 <<< 0 := by simp
  unfold crcTurn
  conv =>
    lhs
    rw [start]
  rw [shift 0 (by omega), shift 1 (by omega), shift 2 (by omega), shift 3 (by omega), shift 4 (by omega),
    shift 5 (by omega), shift 6 (by omega), shift 7 (by omega)]

/-- Two bytes bring the register to zero exactly when they spell it, high byte first. -/
theorem crc_two_bytes (crc : BitVec 16) (high low : Byte) :
    crcByte (crcByte crc high) low = 0#16 ↔ [high, low] = be16 crc := by
  rw [crcByte_eq, crcByte_eq, ← crcTurn_byte low, ← crcTurn_xor, crcTurn_eq_zero, crcTurn_eq_zero]
  have spelled : crc ^^^ high.setWidth 16 <<< 8 ^^^ low.setWidth 16 = 0#16 ↔
      crc = high.setWidth 16 <<< 8 ^^^ low.setWidth 16 := by
    rw [BitVec.xor_assoc, BitVec.xor_eq_zero_iff]
  rw [spelled, be16]
  constructor
  · intro is
    have top : crc.extractLsb' 8 8 = high := by
      apply BitVec.eq_of_getLsbD_eq
      intro i within
      simp [is, within, show 8 + i < 16 by omega]
    have bottom : crc.extractLsb' 0 8 = low := by
      apply BitVec.eq_of_getLsbD_eq
      intro i within
      simp [is, within]
      omega
    rw [top, bottom]
  · intro is
    obtain ⟨rfl, rfl⟩ : high = crc.extractLsb' 8 8 ∧ low = crc.extractLsb' 0 8 := by simpa using is
    apply BitVec.eq_of_getLsbD_eq
    intro i within
    by_cases small : i < 8
    · simp [small, within]
    · simp [small, within, show i - 8 < 8 by omega, show 8 + (i - 8) = i by omega]

theorem crc16_append (front back : List Byte) : crc16 (front ++ back) = back.foldl crcByte (crc16 front) :=
  List.foldl_append

/-- A run of bytes and two more pass the check exactly when the two are the check of the run. -/
theorem crc16_checked (bytes check : List Byte) (two : check.length = 2) :
    crc16 (bytes ++ check) = 0#16 ↔ check = be16 (crc16 bytes) := by
  match check, two with
  | [high, low], _ =>
    rw [crc16_append]
    exact crc_two_bytes _ high low

theorem be16_length (v : BitVec 16) : (be16 v).length = 2 := rfl

theorem be16_injective {v w : BitVec 16} (h : be16 v = be16 w) : v = w := by
  have v0 := (crc_two_bytes v _ _).mpr (show [v.extractLsb' 8 8, v.extractLsb' 0 8] = be16 v from rfl)
  have w0 := (crc_two_bytes w _ _).mpr (show [v.extractLsb' 8 8, v.extractLsb' 0 8] = be16 w from h)
  rw [crcByte_eq, crcByte_eq, crcTurn_eq_zero] at v0 w0
  have same := (BitVec.xor_left_inj _).mp (v0.trans w0.symm)
  have : crcTurn (v ^^^ w) = 0#16 := by
    rw [crcTurn_xor] at same ⊢
    rw [crcTurn_xor] at same
    rw [BitVec.xor_eq_zero_iff]
    exact (BitVec.xor_left_inj _).mp same
  exact BitVec.xor_eq_zero_iff.mp (crcTurn_eq_zero.mp this)

end Sys2Proof.Machine
end
section
/-! What an order answered on the board line leaves, and the configuration memory: the write of an image, its end, and the load. -/

namespace Sys2Proof.Machine

/-! ### Orders of the console, served and placed -/

/-- An order that needs no channel: its effect, told for every board queue, and its RESPONSE behind the room made. -/
theorem consoleOrder_open_effect {now : Tick} {src tag : Byte} {code : OrderCode} {body : List Byte}
    {effect : State → State × Answer} {s t : State} {room : List Telegram} {a : Answer} (serving : Serving s)
    (place : PlaceMade s room) (suits : lengthSuits code body.length = true) (free : needsChannel code = false)
    (does : ∀ b : BoardTransmitter, effect ((advanceTo now s).setBoard b) = (t.setBoard b, a))
    (board : t.board = (advanceTo now s).board) (station : t.settings.station = s.settings.station) :
    consoleOrder src code tag body effect (advanceTo now s) =
      answered t room (response s src tag code a.status a.reason a.body) := by
  rw [consoleOrder_open serving place suits free, does]
  unfold respondConsole fillReservation responseTelegram answered response responsePayload
  rw [State.setBoard_settings, station, State.setBoard_board, board]
  rfl

/-- A channel-needing order of the console as owner: its effect, told for every board queue, and its RESPONSE. -/
theorem consoleOrder_owner_effect {now : Tick} {src tag : Byte} {code : OrderCode} {body : List Byte}
    {effect : State → State × Answer} {s t : State} {room : List Telegram} {a : Answer} (served : ConsoleServed s)
    (place : PlaceMade s room) (suits : lengthSuits code body.length = true) (needs : needsChannel code = true)
    (does : ∀ b : BoardTransmitter, effect ((ownerTurn now s).setBoard b) = (t.setBoard b, a))
    (board : t.board = (advanceTo now s).board) (station : t.settings.station = s.settings.station) :
    consoleOrder src code tag body effect (advanceTo now s) =
      answered t room (response s src tag code a.status a.reason a.body) := by
  rw [consoleOrder_owner served place suits needs, does]
  unfold respondConsole fillReservation responseTelegram answered response responsePayload
  rw [State.setBoard_settings, station, State.setBoard_board, board]
  rfl

@[simp] theorem ownerTurn_loader (now : Tick) (s : State) : (ownerTurn now s).loader = s.loader := by
  rw [ownerTurn_eq]; rfl

/-! ### Reading the configuration memory -/

theorem Memory.read_nil (k : Nat) : Memory.read ⟨[]⟩ k = unwrittenByte := rfl

theorem Memory.read_cons (c : Host.Cell) (cells : List Host.Cell) (k : Nat) :
    Memory.read ⟨c :: cells⟩ k = if c.1 = k then c.2 else Memory.read ⟨cells⟩ k := by
  unfold Memory.read
  rw [List.find?_cons]
  by_cases here : c.1 = k
  · simp [here]
  · simp [here, show (c.1 == k) = false by simpa using here]

/-- Below the first address listed every address reads as unwritten. -/
theorem Memory.read_below {cells : List Host.Cell} {k : Nat} (below : ∀ c ∈ cells, k < c.1) :
    Memory.read ⟨cells⟩ k = unwrittenByte := by
  induction cells with
  | nil => rfl
  | cons c rest ih =>
    have first := below c List.mem_cons_self
    rw [Memory.read_cons, if_neg (by omega), ih fun d mem => below d (List.mem_cons_of_mem _ mem)]

/-- A run of bytes is what its addresses read. -/
theorem readRun_eq (n address : Nat) {cells : List Host.Cell} (rising : cells.Pairwise fun c d => c.1 < d.1)
    (above : ∀ c ∈ cells, address ≤ c.1) :
    readRun n address cells = (List.range' address n).map (Memory.read ⟨cells⟩) := by
  induction n generalizing address cells with
  | zero => rfl
  | succ n ih =>
    rw [List.range'_succ, List.map_cons]
    match cells, rising, above with
    | [], rising, above =>
      rw [readRun, ih _ rising nofun, Memory.read_nil]
    | c :: rest, rising, above =>
      obtain ⟨first, behind⟩ := List.pairwise_cons.mp rising
      have here := above c List.mem_cons_self
      by_cases listed : c.1 = address
      · rw [readRun, if_pos listed, ih _ behind fun d mem => by have := first d mem; omega, Memory.read_cons,
          if_pos listed]
        congr 1
        refine List.map_congr_left fun k mem => ?_
        rw [Memory.read_cons, if_neg]
        have := (List.mem_range'_1.mp mem).1
        omega
      · have later : ∀ d ∈ c :: rest, address + 1 ≤ d.1 := by
          intro d mem
          rcases List.mem_cons.mp mem with rfl | mem
          · omega
          · have := first d mem
            omega
        rw [readRun, if_neg listed, ih _ rising later, Memory.read_below later]

/-- The first bytes of a memory are what its addresses read. -/
theorem Memory.bytes_eq {m : Memory} (h : m.wf) (n : Nat) : m.bytes n = (List.range n).map m.read := by
  rw [Memory.bytes, readRun_eq n 0 h.1 fun _ _ => Nat.zero_le _, List.range_eq_range']

theorem Memory.bytes_length {m : Memory} (h : m.wf) (n : Nat) : (m.bytes n).length = n := by
  rw [Memory.bytes_eq h, List.length_map, List.length_range]

/-- A memory whose addresses read the bytes of a list holds that list. -/
theorem Memory.bytes_eq_of_reads {m : Memory} (h : m.wf) {n : Nat} {bytes : List Byte} (length : bytes.length = n)
    (reads : ∀ k, k < n → m.read k = bytes.getD k 0) : m.bytes n = bytes := by
  rw [Memory.bytes_eq h]
  apply List.ext_getElem
  · simp [length]
  · intro k within last
    have k_lt : k < n := by simpa using within
    simp [reads k k_lt, last]

/-! ### Writing the configuration memory -/

theorem Memory.writeAll_append (m : Memory) (writes more : List Host.Cell) :
    m.writeAll (writes ++ more) = (m.writeAll writes).writeAll more := List.foldl_append

/-- A run of bytes written is read back, and every other address stands as it stood. -/
theorem Memory.read_writeAll_cellsFrom {m : Memory} (h : m.wf) (address : Nat) (bytes : List Byte) (k : Nat) :
    (m.writeAll (cellsFrom address bytes)).read k =
      if address ≤ k ∧ k < address + bytes.length then bytes.getD (k - address) 0 else m.read k := by
  induction bytes generalizing m address with
  | nil =>
    rw [if_neg fun inside => absurd inside.2 (Nat.not_lt.mpr inside.1)]
    rfl
  | cons b rest ih =>
    have first : m.writeAll (cellsFrom address (b :: rest)) = (m.write address b).writeAll (cellsFrom (address + 1) rest) :=
      rfl
    rw [first, ih (Memory.write_wf h address b)]
    by_cases here : k = address
    · subst here
      rw [if_neg (by omega), if_pos (by simp), Memory.read_write_same h]
      simp
    · rw [Memory.read_write_other m address k b (Ne.symm here)]
      by_cases inside : address + 1 ≤ k ∧ k < address + 1 + rest.length
      · have within : address ≤ k ∧ k < address + (b :: rest).length := by
          rw [List.length_cons]
          omega
        rw [if_pos inside, if_pos within]
        obtain ⟨j, rfl⟩ : ∃ j, k = address + 1 + j := ⟨k - (address + 1), by omega⟩
        rw [show address + 1 + j - (address + 1) = j by omega, show address + 1 + j - address = j + 1 by omega,
          List.getD_cons_succ]
      · rw [if_neg inside, if_neg (by simp; omega)]

theorem cellsFrom_take (address : Nat) (bytes : List Byte) (n : Nat) :
    (cellsFrom address bytes).take n = cellsFrom address (bytes.take n) := by
  induction bytes generalizing address n with
  | nil => simp [cellsFrom]
  | cons b rest ih => cases n <;> simp [cellsFrom, ih]

theorem cellsFrom_length (address : Nat) (bytes : List Byte) : (cellsFrom address bytes).length = bytes.length := by
  induction bytes generalizing address with
  | nil => rfl
  | cons b rest ih => simp [cellsFrom, ih]

/-- What an address reads when `n` bytes of the write of an image have been made: of its check the complement, then the
parts, then the check itself (R177, R178). -/
theorem savedUpTo_read {m : Memory} (h : m.wf) {image : List Byte} (whole : image.length = 750) (n k : Nat) :
    (savedUpTo n image m).read k =
      if 748 ≤ k ∧ k < 748 + min (n - 750) 2 then image.getD k 0
      else if k < min (n - 2) 748 then image.getD k 0
      else if 748 ≤ k ∧ k < 748 + min n 2 then ~~~image.getD k 0
      else m.read k := by
  have check : (image.drop 748).length = 2 := by simp [whole]
  have parts : (image.take 748).length = 748 := by simp [whole]
  unfold savedUpTo saveSequence
  simp only [partsSize]
  rw [List.take_append, List.take_append, cellsFrom_take, cellsFrom_take, cellsFrom_take, Memory.writeAll_append,
    Memory.writeAll_append, Memory.read_writeAll_cellsFrom (Memory.writeAll_wf (Memory.writeAll_wf h _) _),
    Memory.read_writeAll_cellsFrom (Memory.writeAll_wf h _), Memory.read_writeAll_cellsFrom h]
  simp only [List.length_append, cellsFrom_length, List.length_map, check, parts, List.length_take]
  have beyond : n - (2 + 748) = n - 750 := by omega
  rw [beyond]
  refine ite_congr rfl (fun inside => ?_) fun _ => ite_congr (by simp) (fun inside => ?_) fun _ =>
    ite_congr rfl (fun inside => ?_) fun _ => rfl
  · simp [show k - 748 < n - 750 by omega, show 748 + (k - 748) = k by omega]
  · simp [show k < n - 2 by omega, show k < 748 by omega]
  · simp [show k - 748 < n by omega, show 748 + (k - 748) = k by omega, show k < 750 by omega, whole]

/-- A write cut off leaves what R177 and R178 give, byte for byte. -/
theorem savedUpTo_cutOff {m : Memory} (h : m.wf) {image : List Byte} (whole : image.length = 750) (written : Nat) :
    CutOff written image m (savedUpTo written image m) := by
  have reads := savedUpTo_read h whole written
  refine ⟨?none, ?one, ?some, ?last, ?all⟩
  case none =>
    rintro rfl
    rfl
  case one =>
    rintro rfl
    refine ⟨?_, fun k other => ?_⟩
    · rw [reads, if_neg (by omega), if_neg (by omega), if_pos (by omega)]
    · rw [reads, if_neg (by omega), if_neg (by omega), if_neg (by omega)]
  case some =>
    intro atLeast atMost
    refine ⟨fun k check => ?_, fun k new => ?_, fun k old => ?_⟩
    · rw [reads, if_neg (by omega), if_neg (by omega), if_pos (by omega)]
    · rw [reads, if_neg (by omega), if_pos (by omega)]
    · rw [reads, if_neg (by omega), if_neg (by omega), if_neg (by omega)]
  case last =>
    rintro rfl
    refine ⟨?_, fun k new => ?_, fun k old => ?_⟩
    · rw [reads, if_neg (by omega), if_neg (by omega), if_pos (by omega)]
    · rw [reads]
      by_cases part : k < 748
      · rw [if_neg (by omega), if_pos (by omega)]
      · rw [if_pos (by omega)]
    · rw [reads, if_neg (by omega), if_neg (by omega), if_neg (by omega)]
  case all =>
    intro atLeast
    refine ⟨fun k new => ?_, fun k old => ?_⟩
    · rw [reads]
      by_cases part : k < 748
      · rw [if_neg (by omega), if_pos (by omega)]
      · rw [if_pos (by omega)]
    · rw [reads, if_neg (by omega), if_neg (by omega), if_neg (by omega)]

/-- A memory passes its check when the last two bytes of the image are the check of the parts. -/
theorem Memory.crc16_bytes {m : Memory} (h : m.wf) :
    crc16 (m.bytes 750) = 0#16 ↔ [m.read 748, m.read 749] = be16 (crc16 (m.bytes 748)) := by
  have split : m.bytes 750 = m.bytes 748 ++ [m.read 748, m.read 749] := by
    rw [Memory.bytes_eq h, Memory.bytes_eq h, List.range_succ, List.range_succ]
    simp
  rw [split, crc16_checked _ _ rfl]

/-- An image that passes its check ends in the check of its parts. -/
theorem checked_image {image : List Byte} (whole : image.length = 750) :
    crc16 image = 0#16 ↔ [image.getD 748 0, image.getD 749 0] = be16 (crc16 (image.take 748)) := by
  have last : image.drop 748 = [image.getD 748 0, image.getD 749 0] := by
    apply List.ext_getElem?
    intro k
    match k with
    | 0 => simp [whole]
    | 1 => simp [whole]
    | k + 2 => simp [whole]
  conv =>
    lhs
    rw [← List.take_append_drop 748 image, last]
  exact crc16_checked _ _ rfl

theorem be16_not (v : BitVec 16) : be16 (~~~v) = (be16 v).map fun b => ~~~b := by
  have half (start : Nat) (within : start + 8 ≤ 16) : (~~~v).extractLsb' start 8 = ~~~v.extractLsb' start 8 := by
    apply BitVec.eq_of_getLsbD_eq
    intro i inside
    simp [inside, show start + i < 16 by omega]
  simp [be16, half]

theorem complement_ne {w : Nat} (v : BitVec (w + 1)) : ~~~v ≠ v := by
  intro same
  have low := congrArg (fun v => v.getLsbD 0) same
  simp at low

/-- A write cut off between the complemented check and the last byte of the check leaves a bad image (R178). -/
theorem savedUpTo_bad {m : Memory} (h : m.wf) {image : List Byte} (whole : image.length = 750) {written : Nat}
    (good : crc16 image = 0) (atLeast : 2 ≤ written) (atMost : written ≤ 751)
    (mixed : 750 ≤ written ∨ crc16 ((savedUpTo written image m).bytes 748) ≠ ~~~crc16 (image.take 748)) :
    HoldsBadImage (savedUpTo written image m) := by
  have wf := savedUpTo_wf h written image
  have reads := savedUpTo_read h whole written
  have check := (checked_image whole).mp good
  have partsWritten (all : 750 ≤ written) : (savedUpTo written image m).bytes 748 = image.take 748 := by
    refine Memory.bytes_eq_of_reads wf (by simp [whole]) fun k within => ?_
    rw [reads, if_neg (by omega), if_pos (by omega)]
    simp [within]
  have fails : crc16 ((savedUpTo written image m).bytes 750) ≠ 0#16 := by
    rw [ne_eq, Memory.crc16_bytes wf]
    intro holds
    have low : (savedUpTo written image m).read 749 = ~~~image.getD 749 0 := by
      rw [reads, if_neg (by omega), if_neg (by omega), if_pos (by omega)]
    by_cases last : written = 751
    · rw [partsWritten (by omega), ← check, low] at holds
      have same : ~~~image.getD 749 0 = image.getD 749 0 := (List.cons.inj (List.cons.inj holds).2).1
      exact absurd same (complement_ne _)
    · have high : (savedUpTo written image m).read 748 = ~~~image.getD 748 0 := by
        rw [reads, if_neg (by omega), if_neg (by omega), if_pos (by omega)]
      have complement : be16 (crc16 ((savedUpTo written image m).bytes 748)) = be16 (~~~crc16 (image.take 748)) := by
        rw [be16_not, ← check, ← holds, high, low]
        rfl
      have equal := be16_injective complement
      rcases mixed with all | differ
      · rw [partsWritten all] at equal
        exact absurd equal.symm (complement_ne _)
      · exact differ equal
  intro answers
  simp [imageGood, fails]

theorem savedUpTo_whole {m : Memory} (h : m.wf) {image : List Byte} (whole : image.length = 750) {written : Nat}
    (all : 752 ≤ written) : (savedUpTo written image m).bytes 750 = image := by
  obtain ⟨_, _, _, _, ends⟩ := savedUpTo_cutOff h whole written
  exact Memory.bytes_eq_of_reads (savedUpTo_wf h written image) whole (ends all).1

/-- Settles O5: POWER_ON leaves the memory as the write stood. -/
theorem powerOnAbandonsWrite : Obligations.PowerOnAbandonsWrite := by
  intro strapHigh written s image writing whole wf
  have memory : memoryAtPowerOn written s.loader = savedUpTo written image s.loader.memory := by
    rw [memoryAtPowerOn, writing]
  refine ⟨powerOnState strapHigh (savedUpTo written image s.loader.memory) s.pending, ?_, rfl, rfl,
    savedUpTo_cutOff wf whole written, savedUpTo_bad wf whole, savedUpTo_whole wf whole⟩
  exact congrArg (fun m => Host.Outcome.next (powerOnState strapHigh m s.pending)) memory

/-! ### SAVE and its end -/

theorem noteOwnerOrder_notices (s : State) : (noteOwnerOrder s).orders.notices = s.orders.notices := by
  have handover (s : State) : (startHandover s).orders.notices = s.orders.notices := by
    unfold startHandover
    split <;> rfl
  have home (s : State) : (startHome s).orders.notices = s.orders.notices := by
    unfold startHome
    split <;> rfl
  exact (home _).trans (handover s)

@[simp] theorem ownerTurn_notices (now : Tick) (s : State) : (ownerTurn now s).orders.notices = s.orders.notices :=
  noteOwnerOrder_notices (advanceTo now s)

@[simp] theorem ownerTurn_nodes (now : Tick) (s : State) : (ownerTurn now s).nodes = s.nodes := by
  rw [ownerTurn_eq]; rfl

@[simp] theorem ownerTurn_filters (now : Tick) (s : State) : (ownerTurn now s).filters = s.filters := by
  rw [ownerTurn_eq]; rfl

@[simp] theorem ownerTurn_lamps (now : Tick) (s : State) : (ownerTurn now s).lamps = (advanceTo now s).lamps := by
  rw [ownerTurn_eq]; rfl

/-- The stored parts of a state are untouched by an owner's turn, so its image is the one SAVE stores. -/
theorem imageOf_ownerTurn (now : Tick) (s : State) (b : BoardTransmitter) :
    imageOf ((ownerTurn now s).setBoard b) = imageOf s := by
  have parts : imageParts ((ownerTurn now s).setBoard b) = imageParts s := by
    simp [imageParts, advanceTo]
  simp [imageOf, parts]

theorem raise_sets (k : NoticeKind) (s : State) : ((raise k s).notice k).status = true := raiseWith_sets 2 k s

theorem orderSave_idle {s : State} (idle : s.loader.save = .idle) :
    orderSave s = (s.setLoader { s.loader with save := .writing (imageOf s) }, plain .ok) := by
  simp [orderSave, idle]

theorem orderSave_busy {s : State} {image : List Byte} (writing : s.loader.save = .writing image) :
    orderSave s = (s, plain .busy) := by
  simp [orderSave, writing]

theorem saveSequence_length {image : List Byte} (whole : image.length = 750) : (saveSequence image).length = 752 := by
  simp [saveSequence, cellsFrom_length, partsSize, whole]

/-- The end of a write that comes to good leaves no notice. -/
theorem finishSave_good {how : SaveEnd} {image : List Byte} {s : State}
    (good : (saveOutcome how image s.loader.memory).2 = true) :
    finishSave how image s = s.setLoader { s.loader with
      save := .idle, memory := (saveOutcome how image s.loader.memory).1 } := by
  simp [finishSave, good]

/-- The end of a write that fails raises CONFIG_INVALID and does nothing else. -/
theorem finishSave_bad {how : SaveEnd} {image : List Byte} {s : State}
    (bad : (saveOutcome how image s.loader.memory).2 = false) :
    finishSave how image s = raise .configInvalid (s.setLoader { s.loader with
      save := .idle, memory := (saveOutcome how image s.loader.memory).1 }) := by
  simp [finishSave, bad]

theorem exec_saveDone {now : Tick} {how : SaveEnd} {s : State} {image : List Byte}
    (writing : s.loader.save = .writing image) :
    exec (.saveDone now how) s = .next (finishSave how image (advanceTo now s)) := by
  have advanced : (advanceTo now s).loader.save = .writing image := writing
  change Host.Outcome.next _ = _
  rw [advanced]

/-- However a write ends, the save state is IDLE again and the rest of the loader is the memory's. -/
theorem finishSave_loader (how : SaveEnd) (image : List Byte) (s : State) :
    (finishSave how image s).loader =
      { s.loader with save := .idle, memory := (saveOutcome how image s.loader.memory).1 } := by
  cases good : (saveOutcome how image s.loader.memory).2 with
  | true => rw [finishSave_good good]; rfl
  | false =>
    rw [finishSave_bad good]
    exact (raise_onlyAnnounces .configInvalid _).loader

theorem misread_memory {image read : List Byte} {m : Memory} (h : m.wf) (whole : read.length = 750) :
    (saveOutcome (.misread read) image m).1.bytes 750 = read := by
  refine Memory.bytes_eq_of_reads (saveOutcome_wf h _ image) whole fun k within => ?_
  simp only [saveOutcome]
  rw [Memory.read_writeAll_cellsFrom (savedUpTo_wf h _ _), if_pos (by simp [imageSize, whole]; exact within)]
  simp [imageSize, List.take_of_length_le (Nat.le_of_eq whole)]

/-- Settles O8: the write's snapshot is the image of the state that SAVE finds, and each end of the write leaves the memory
that `saveOutcome` gives. -/
theorem saveWritesTheImage : Obligations.SaveWritesTheImage := by
  refine ⟨fun now src tag s room served place => ⟨fun idle => ?_, fun image writing => ?_⟩,
    fun now s image writing whole wf => ?_⟩
  · refine congrArg Host.Outcome.next (consoleOrder_owner_effect served place rfl rfl (a := plain .ok)
      (t := (ownerTurn now s).setLoader { s.loader with save := .writing (imageOf s) }) (fun b => ?_) ?_ ?_)
    · rw [orderSave_idle (by simpa using idle), imageOf_ownerTurn]
      simp only [State.setBoard_loader, ownerTurn_loader]
      rfl
    · simp
    · simp
  · refine congrArg Host.Outcome.next (consoleOrder_owner_unchanged (a := plain .busy) served place rfl rfl fun b => ?_)
    exact orderSave_busy (by simpa using writing)
  · intro Ended Invalid
    have ended (how : SaveEnd) : Ended how (finishSave how image (advanceTo now s)) := by
      refine ⟨exec_saveDone writing, ?_⟩
      rw [finishSave_loader]
      rfl
    have good {how : SaveEnd} (holds : (saveOutcome how image s.loader.memory).2 = true) :
        finishSave how image (advanceTo now s) =
          (advanceTo now s).setLoader (finishSave how image (advanceTo now s)).loader := by
      rw [finishSave_good (s := advanceTo now s) holds]
      rfl
    have bad {how : SaveEnd} (fails : (saveOutcome how image s.loader.memory).2 = false) :
        Invalid (finishSave how image (advanceTo now s)) := by
      have raised := finishSave_bad (s := advanceTo now s) fails
      refine ⟨raised ▸ raise_sets _ _, ?_⟩
      rw [finishSave_loader, raised]
      exact raise_onlyAnnounces .configInvalid _
    refine ⟨⟨_, ended .complete, ?_, good rfl⟩, fun read readWhole => ⟨_, ended _, ?_, ?_⟩,
      fun written _ => ⟨_, ended _, bad rfl, ?_⟩⟩
    · rw [finishSave_loader]
      exact savedUpTo_whole wf whole (Nat.le_of_eq (saveSequence_length whole).symm)
    · rw [finishSave_loader]
      exact misread_memory wf readWhole
    · have outcome : (saveOutcome (.misread read) image s.loader.memory).2 = true ↔
          read.drop 748 = image.drop 748 ∧ be16 (crc16 (read.take 748)) = image.drop 748 := by
        simp [saveOutcome, readBackAgrees, imageSize, partsSize, List.take_of_length_le (Nat.le_of_eq readWhole)]
      exact ⟨fun agrees => good (outcome.mpr agrees),
        fun differs => bad (Bool.eq_false_iff.mpr fun holds => differs (outcome.mp holds))⟩
    · rw [finishSave_loader]
      exact savedUpTo_cutOff wf whole written

/-! ### The load -/

/-- The tables at their defaults, the load DONE, and HOLD as the strap left it: what a load leaves that takes nothing. -/
def loadedDefaults (s : State) : State :=
  (defaultParts s).setLoader { s.loader with load := .done }

theorem exec_loadDone {now : Tick} {answers : Bool} {s : State} (loading : s.loader.load = .loading) :
    exec (.loadDone now answers) s = .next (finishLoad answers (advanceTo now s)) :=
  congrArg Host.Outcome.next (if_pos loading)

theorem finishLoad_bad {answers : Bool} {s : State} (bad : imageGood answers (s.loader.memory.bytes 750) = false) :
    finishLoad answers s = raise .configInvalid (loadedDefaults s) := by
  have bad' : imageGood answers (s.loader.memory.bytes imageSize) = false := bad
  simp [finishLoad, bad', loadedDefaults, defaultParts, setPatterns, defaultSettings]

theorem setPatterns_pattern (live : Fin 3 → PatternSet) (s : State) (p : Fin 3) :
    (setPatterns live s).lamps.patterns[p] = loadedPattern (live p) s.lamps.patterns[p] := by
  simp [setPatterns]

theorem defaultParts_notice (s : State) (k : Fin 12) :
    (defaultParts s).orders.notices[k] = { s.orders.notices[k] with enabled := true, direction := .board } := by
  simp [defaultParts, setPatterns]

/-- Settles O6: the defaults are in the tables when CONFIG_INVALID is raised, which announces and does no more. -/
theorem loadWithoutImageTakesDefaults : Obligations.LoadWithoutImageTakesDefaults := by
  intro now answers s loading bad
  have pattern (p : Fin 3) : (loadedDefaults (advanceTo now s)).lamps.patterns[p] =
      loadedPattern (defaultPattern p) (advanceTo now s).lamps.patterns[p] := setPatterns_pattern ..
  have raised := raise_onlyAnnounces .configInvalid (loadedDefaults (advanceTo now s))
  refine ⟨raise .configInvalid (loadedDefaults (advanceTo now s)), ?_, ?_⟩
  · rw [exec_loadDone loading, finishLoad_bad (s := advanceTo now s) bad]
  rw [raised.nodes, raised.filters, raised.settings, raised.lamps, raised.loader, raised.clock, raised.deck, raised.heat,
    raised.lanes, raised.results, raised.banks]
  refine ⟨?_, ?_, rfl, rfl, rfl, ?_, fun k => ?_, ?_, ?_, ?_, fun p => ?_, rfl, raise_sets _ _, rfl, rfl, rfl, rfl, rfl,
    rfl, rfl⟩
  · simp [loadedDefaults, defaultParts, setPatterns]
  · simp [loadedDefaults, defaultParts, setPatterns]
  · simp [loadedDefaults, defaultParts, setPatterns, defaultSettings]
  · have notice := defaultParts_notice (advanceTo now s) k
    rw [raised.notices k]
    exact ⟨congrArg Notice.enabled notice, congrArg Notice.direction notice⟩
  · exact congrArg Pattern.live (pattern 0)
  · exact congrArg Pattern.live (pattern 1)
  · exact congrArg Pattern.live (pattern 2)
  · exact ⟨congrArg Pattern.staged (pattern p), congrArg Pattern.force (pattern p)⟩

end Sys2Proof.Machine
end
section
/-! The load of a stored image: each entry's bytes are read back as the entry itself (R174, R175). -/

namespace Sys2Proof.Machine

/-! ### The entries of an image -/

/-- An entry of a part, cut out of the whole image. -/
theorem chunk_of_part {image front part back : List Byte} {base size i : Nat} (is : image = front ++ (part ++ back))
    (starts : front.length = base) (inside : i * size + size ≤ part.length) :
    (image.drop (base + i * size)).take size = (part.drop (i * size)).take size := by
  rw [is, ← List.drop_drop, List.drop_left' starts, List.drop_append_of_le_length (by omega),
    List.take_append_of_le_length (by rw [List.length_drop]; omega)]

/-- An entry of a part whose entries all have one size. -/
theorem chunk_of_entries {α : Type} (f : α → List Byte) {size : Nat} (sized : ∀ e, (f e).length = size) :
    ∀ (entries : List α) (i : Nat) (h : i < entries.length),
      ((entries.flatMap f).drop (i * size)).take size = f entries[i]
  | e :: rest, 0, _ => by simp [← sized e]
  | e :: rest, i + 1, h => by
    have first : (i + 1) * size = (f e).length + i * size := by rw [sized, Nat.succ_mul, Nat.add_comm]
    rw [List.flatMap_cons, first, ← List.drop_drop, List.drop_left]
    exact chunk_of_entries f sized rest i (Nat.lt_of_succ_lt_succ h)

theorem flatMap_length_of_sized {α : Type} (f : α → List Byte) {size : Nat} (sized : ∀ e, (f e).length = size)
    (entries : List α) : (entries.flatMap f).length = entries.length * size := by
  induction entries with
  | nil => simp
  | cons e rest ih => simp [ih, sized, Nat.succ_mul, Nat.add_comm]

theorem nodeBytes_length (entry : Option Node) : (nodeBytes entry).length = 10 := by
  cases entry <;> rfl

theorem filterBytes_length (entry : Option FilterEntry) : (filterBytes entry).length = 5 := by
  cases entry <;> rfl

theorem settingsBytes_length (t : Settings) : (settingsBytes t).length = 7 := by
  simp [settingsBytes]

/-- The parts of an image by name, each the run of its entries. -/
theorem imageOf_eq (s : State) : imageOf s =
    settingsBytes s.settings ++ s.orders.notices.toList.map noticeByte ++ s.nodes.toList.flatMap nodeBytes
      ++ s.filters.toList.flatMap filterBytes
      ++ s.lamps.patterns.toList.flatMap (fun p => patternSetBytes (p.staged.getD p.live))
      ++ be16 (crc16 (imageParts s)) := rfl

theorem imageParts_length (s : State) : (imageParts s).length = 748 := by
  unfold imageParts
  simp only [List.length_append, settingsBytes_length, List.length_map, Vector.length_toList,
    flatMap_length_of_sized nodeBytes nodeBytes_length, flatMap_length_of_sized filterBytes filterBytes_length,
    flatMap_length_of_sized _ (fun p : Pattern => show (patternSetBytes (p.staged.getD p.live)).length = 3 from rfl)]

theorem image_setting (s : State) {i : Nat} (h : i < 7) :
    ((imageOf s).drop (0 + i * 1)).take 1 = ((settingsBytes s.settings).drop (i * 1)).take 1 :=
  chunk_of_part (front := []) (by rw [imageOf_eq]; simp only [List.append_assoc, List.nil_append]; rfl) rfl
    (by rw [settingsBytes_length]; omega)

theorem image_notice (s : State) {i : Nat} (h : i < 12) :
    ((imageOf s).drop (7 + i * 1)).take 1 = [noticeByte s.orders.notices[i]] := by
  have entries : s.orders.notices.toList.map noticeByte = s.orders.notices.toList.flatMap fun n => [noticeByte n] :=
    List.map_eq_flatMap
  have size := flatMap_length_of_sized (size := 1) (fun n => [noticeByte n]) (fun _ => rfl) s.orders.notices.toList
  rw [Vector.length_toList] at size
  rw [chunk_of_part (by rw [imageOf_eq, entries]; simp only [List.append_assoc]; rfl) (settingsBytes_length _)
    (by rw [size]; omega)]
  exact chunk_of_entries (fun n => [noticeByte n]) (fun _ => rfl) _ i (by simpa using h)

/-- Where the node table's entries begin in the image. -/
def imageBeforeNodes (s : State) : List Byte := settingsBytes s.settings ++ s.orders.notices.toList.map noticeByte

theorem imageBeforeNodes_length (s : State) : (imageBeforeNodes s).length = 19 := by
  simp [imageBeforeNodes, settingsBytes_length]

theorem image_node (s : State) {i : Nat} (h : i < 64) :
    ((imageOf s).drop (19 + i * 10)).take 10 = nodeBytes s.nodes[i] := by
  have size := flatMap_length_of_sized nodeBytes nodeBytes_length s.nodes.toList
  rw [Vector.length_toList] at size
  rw [chunk_of_part (front := imageBeforeNodes s)
    (by rw [imageOf_eq, imageBeforeNodes]; simp only [List.append_assoc]; rfl) (imageBeforeNodes_length s)
    (by rw [size]; omega)]
  exact chunk_of_entries nodeBytes nodeBytes_length _ i (by simpa using h)

/-- Where the filter table's entries begin in the image. -/
def imageBeforeFilters (s : State) : List Byte := imageBeforeNodes s ++ s.nodes.toList.flatMap nodeBytes

theorem imageBeforeFilters_length (s : State) : (imageBeforeFilters s).length = 659 := by
  rw [imageBeforeFilters, List.length_append, imageBeforeNodes_length,
    flatMap_length_of_sized nodeBytes nodeBytes_length, Vector.length_toList]

theorem image_filter (s : State) {i : Nat} (h : i < 16) :
    ((imageOf s).drop (659 + i * 5)).take 5 = filterBytes s.filters[i] := by
  have size := flatMap_length_of_sized filterBytes filterBytes_length s.filters.toList
  rw [Vector.length_toList] at size
  rw [chunk_of_part (front := imageBeforeFilters s)
    (by rw [imageOf_eq, imageBeforeFilters, imageBeforeNodes]; simp only [List.append_assoc]; rfl)
    (imageBeforeFilters_length s) (by rw [size]; omega)]
  exact chunk_of_entries filterBytes filterBytes_length _ i (by simpa using h)

/-- The set of a pattern that the image stores: the staged one when there is one (R174). -/
def storedSet (p : Pattern) : PatternSet := p.staged.getD p.live

theorem image_pattern (s : State) {i : Nat} (h : i < 3) :
    ((imageOf s).drop (739 + i * 3)).take 3 = patternSetBytes (storedSet s.lamps.patterns[i]) := by
  have sized (p : Pattern) : (patternSetBytes (storedSet p)).length = 3 := rfl
  have size := flatMap_length_of_sized (fun p => patternSetBytes (storedSet p)) sized s.lamps.patterns.toList
  rw [Vector.length_toList] at size
  have starts : (imageBeforeFilters s ++ s.filters.toList.flatMap filterBytes).length = 739 := by
    rw [List.length_append, imageBeforeFilters_length, flatMap_length_of_sized filterBytes filterBytes_length,
      Vector.length_toList]
  rw [chunk_of_part (part := s.lamps.patterns.toList.flatMap fun p => patternSetBytes (storedSet p))
    (by rw [imageOf_eq, imageBeforeFilters, imageBeforeNodes]; simp only [List.append_assoc]; rfl)
    starts (by rw [size]; omega)]
  exact chunk_of_entries (fun p => patternSetBytes (storedSet p)) sized _ i (by simpa using h)

/-! ### Entries read back -/

theorem byteOf_toNat {n : Nat} (h : n < 256) : (byteOf n).toNat = n := by
  rw [byteOf, BitVec.toNat_ofNat]
  exact Nat.mod_eq_of_lt h

theorem number_nat16 {n : Nat} (h : n < 65536) : number (nat16 n) = n := by
  simp [number, nat16, be16, BitVec.extractLsb'_toNat, Nat.shiftRight_eq_div_pow]
  omega

theorem noneEnd_names_none : poolEndOf Config.noneEnd = none := by
  have other : Config.noneEnd ≠ 0 ∧ Config.noneEnd ≠ 1 := by
    unfold Config.noneEnd
    split
    · next low =>
      have : Config.noneEndCode.toNat = 0 ∨ Config.noneEndCode.toNat = 1 := by omega
      rcases this with zero | one
      · rw [show Config.noneEndCode = 0 from BitVec.eq_of_toNat_eq zero]
        decide
      · rw [show Config.noneEndCode = 1 from BitVec.eq_of_toNat_eq one]
        decide
    · next high =>
      constructor <;> intro is <;> rw [is] at high <;> exact high (by decide)
  rw [poolEndOf, if_neg other.1, if_neg other.2]

theorem poolEndOf_optEndByte (e : Option PoolEnd) : poolEndOf (optEndByte e) = e := by
  match e with
  | none => exact noneEnd_names_none
  | some .start => rfl
  | some .turn => rfl

theorem laneOf_optLaneByte (lane : Option Lane) : laneOf (optLaneByte lane) = lane := by
  cases lane with
  | none => rfl
  | some l =>
    have value := byteOf_toNat (n := l.val) (by omega)
    simp [laneOf, optLaneByte, value]

theorem nodeKindOf_code (k : NodeKind) : nodeKindOf (nodeKindCode k) = some k := by
  cases k <;> rfl

theorem flagByte_pair (a b : Bool) : (flagByte [a, b]).getLsbD 0 = a ∧ (flagByte [a, b]).getLsbD 1 = b := by
  cases a <;> cases b <;> decide

/-- A node entry in its stored form is read back from its bytes. -/
theorem storedNode_nodeBytes {n : Node} (form : StoredForm n.entry) : storedNode (nodeBytes (some n)) n.entry.kind = n.entry := by
  obtain ⟨⟨station, kind, lane, poolEnd, position, latency, threshold, mode, pollClass⟩, run⟩ := n
  obtain ⟨_, _, latencyBound, laneIff, blockEnd, endIs, endNone, buttonAt, noPosition, low, high, edge⟩ := form
  have latencyBack : field (nodeBytes (some ⟨⟨station, kind, lane, poolEnd, position, latency, threshold, mode, pollClass⟩,
      run⟩)) 6 2 = latency := number_nat16 (n := latency) (by simp only at latencyBound; omega)
  have laneBack : (if needsLane kind then laneOf (optLaneByte lane) else none) = lane := by
    rw [laneOf_optLaneByte]
    cases lane with
    | none => exact ite_self _
    | some l => exact if_pos (by have := laneIff.mp rfl; cases kind <;> simp_all [needsLane])
  have endBack : (storedNode (nodeBytes (some ⟨⟨station, kind, lane, poolEnd, position, latency, threshold, mode,
      pollClass⟩, run⟩)) kind).poolEnd = poolEnd := by
    cases kind with
    | block => exact (blockEnd rfl).symm
    | pad | button => exact poolEndOf_optEndByte poolEnd
    | starter | panel | other => exact (endNone nofun nofun nofun).symm
  have positionBack : (if kind = .button then positionOf (byteOf (position.getD 0)) else none) = position := by
    split
    · next button => rcases buttonAt button with is | is | is <;> simp only at is <;> subst is <;> rfl
    · next other => exact (noPosition other).symm
  have thresholdBack : (if kind = .pad then max 1 (byteOf threshold).toNat else 1) = threshold := by
    split
    · rw [byteOf_toNat (Nat.lt_succ_of_le high)]
      exact Nat.max_eq_right low
    · next other => exact (edge other).1.symm
  have modeBack : (if kind = .pad ∧ (flagByte [mode == .level, pollClass == .priority]).getLsbD 0 then ContactMode.level
      else .edge) = mode := by
    rw [(flagByte_pair _ _).1]
    cases mode with
    | level => exact if_pos ⟨Classical.byContradiction fun other => (nomatch (edge other).2), rfl⟩
    | edge => exact if_neg fun h => nomatch h.2
  have classBack : (if (flagByte [mode == .level, pollClass == .priority]).getLsbD 1 then PollClass.priority
      else .normal) = pollClass := by
    rw [(flagByte_pair _ _).2]
    cases pollClass <;> rfl
  unfold storedNode
  rw [latencyBack, Nat.min_eq_right latencyBound]
  exact (NodeEntry.mk.injEq ..).mpr ⟨rfl, rfl, laneBack, endBack, positionBack, rfl, thresholdBack, modeBack, classBack⟩

theorem implies_or {a b : Bool} (h : a = true → b = true) : (!a || b) = true := by
  cases a with
  | false => rfl
  | true => exact h rfl

theorem roleFits_of_form {e : NodeEntry} (form : StoredForm e) : roleFits e = true := by
  obtain ⟨_, _, _, laneIff, blockEnd, endIs, _, buttonAt, _, _, _, _⟩ := form
  have lane : needsLane e.kind = true → e.lane.isSome = true := by
    intro needs
    refine laneIff.mpr ?_
    cases kind : e.kind <;> simp [needsLane, kind] at needs ⊢
  have position : e.kind = .button → e.position.isSome = true := by
    intro button
    rcases buttonAt button with is | is | is <;> rw [is] <;> rfl
  have laneFits : (!needsLane e.kind || e.lane.isSome) = true := implies_or lane
  have endFits : (!(e.kind == .pad || e.kind == .button) || e.poolEnd.isSome) = true :=
    implies_or fun either => endIs (by simpa using either)
  have positionFits : (!(e.kind == .button) || e.position.isSome) = true :=
    implies_or fun button => position (beq_iff_eq.mp button)
  rw [roleFits, laneFits, endFits, positionFits]
  rfl

/-- A stored node entry is accepted as it was written, where its station is free. -/
theorem nodeWrite_nodeBytes {s : State} {i : Fin 64} {n : Node} (form : StoredForm n.entry)
    (fits : stationFits s i n.entry.station = true) :
    nodeWrite s i (nodeBytes (some n)) = some (some ⟨n.entry, freshRuntime⟩) := by
  have kind : nodeKindOf (byteAt (nodeBytes (some n)) 2).toNat = some n.entry.kind := by
    have read : (byteAt (nodeBytes (some n)) 2).toNat = nodeKindCode n.entry.kind :=
      byteOf_toNat (by cases n.entry.kind <;> decide)
    rw [read, nodeKindOf_code]
  unfold nodeWrite
  rw [if_neg (by exact (nofun : ¬ (1 : Byte) = 0)), if_neg (by exact not_not_intro fits), kind]
  dsimp only
  rw [storedNode_nodeBytes form, if_pos (roleFits_of_form form)]

theorem filterWrite_filterBytes (entry : Option FilterEntry) : filterWrite (filterBytes entry) = some entry := by
  cases entry with
  | none => rfl
  | some f =>
    obtain ⟨value, mask, items, action⟩ := f
    have itemsBack : (items.setWidth 8).setWidth 7 = items := by
      apply BitVec.eq_of_getLsbD_eq
      intro i within
      simp [within]
    cases action <;> simp [filterWrite, filterBytes, byteAt, actionCode, byteOf, actionOf, itemsBack]

theorem noticeWrite_noticeByte (n m : Notice) : noticeWrite n (noticeByte m) = { m with status := n.status } := by
  obtain ⟨_, enabled, direction⟩ := m
  unfold noticeWrite noticeByte
  rw [(flagByte_pair _ _).1, (flagByte_pair _ _).2]
  cases direction <;> rfl

/-! ### The parts taken in -/

/-- When every entry of a part is accepted, nothing is refused, and what holds of the state before the part comes through it
entry by entry. -/
theorem loadPart_accepts {write : Nat → List Byte → State → Option State} {base size count : Nat} {image : List Byte}
    (holds : Nat → State → Prop)
    (accepts : ∀ i s, i < count → holds i s →
      ∃ t, write i ((image.drop (base + i * size)).take size) s = some t ∧ holds (i + 1) t)
    {w : Loaded} (start : holds 0 w.state) :
    ∃ t, loadPart write base size count image w = ⟨t, w.refused⟩ ∧ holds count t := by
  have upTo (n : Nat) (within : n ≤ count) : ∃ t, (List.range n).foldl (fun (w : Loaded) (i : Nat) =>
      match write i ((image.drop (base + i * size)).take size) w.state with
      | some s => { w with state := s }
      | none => { w with refused := true }) w = ⟨t, w.refused⟩ ∧ holds n t := by
    induction n with
    | zero => exact ⟨w.state, rfl, start⟩
    | succ n ih =>
      obtain ⟨t, taken, held⟩ := ih (by omega)
      obtain ⟨t', written, held'⟩ := accepts n t (by omega) held
      refine ⟨t', ?_, held'⟩
      rw [List.range_succ, List.foldl_append, taken, List.foldl_cons, List.foldl_nil]
      dsimp only
      rw [written]
  exact upTo count (Nat.le_refl _)

/-- The first `n` entries of a table replaced. -/
def filled {α : Type} {k : Nat} (n : Nat) (new old : Vector α k) : Vector α k :=
  Vector.ofFn fun i => if i.val < n then new[i] else old[i]

theorem filled_getElem {α : Type} {k n : Nat} (new old : Vector α k) (i : Nat) (h : i < k) :
    (filled n new old)[i] = if i < n then new[i] else old[i] := by
  simp [filled]

theorem filled_none {α : Type} {k : Nat} (new old : Vector α k) : filled 0 new old = old :=
  Vector.ext fun i h => filled_getElem new old i h

theorem filled_all {α : Type} {k : Nat} (new old : Vector α k) : filled k new old = new :=
  Vector.ext fun i h => (filled_getElem new old i h).trans (if_pos h)

theorem filled_set {α : Type} {k n : Nat} (new old : Vector α k) (h : n < k) :
    (filled n new old).set n new[n] = filled (n + 1) new old := by
  apply Vector.ext
  intro i within
  rw [Vector.getElem_set, filled_getElem, filled_getElem]
  by_cases here : n = i
  · subst here
    simp
  · rw [if_neg here]
    exact ite_congr (propext (by omega)) (fun _ => rfl) fun _ => rfl

theorem filled_modifyAt {α : Type} {k n : Nat} {new old : Vector α k} (h : n < k) {f : α → α} (f_eq : f old[n] = new[n]) :
    modifyAt (filled n new old) ⟨n, h⟩ f = filled (n + 1) new old := by
  have here : (filled n new old)[n] = old[n] := (filled_getElem new old n h).trans (if_neg (Nat.lt_irrefl n))
  rw [← filled_set new old h, ← f_eq, ← here]
  rfl

/-- The settings with the first `n` of their seven bytes taken. -/
def takenSettings (n : Nat) (t : Settings) : Settings where
  station := if 0 < n then t.station else 1
  mode := if 1 < n then t.mode else .park
  holdBit := if 2 < n then t.holdBit else false
  toConsole := filled (n - 3) t.toConsole (Vector.replicate 4 false)

theorem takenSettings_none (t : Settings) : takenSettings 0 t = defaultSettings := by
  simp [takenSettings, filled_none, defaultSettings]

theorem takenSettings_all (t : Settings) : takenSettings 7 t = t := by
  simp [takenSettings, filled_all]

theorem markByte_read (b : Bool) : ((markByte b).toNat ≤ 1) ∧ (markByte b == 1) = b := by
  cases b <;> decide

/-- Each setting of an image is accepted while the node table stands empty. -/
theorem settingWrite_taken {s : State} {t : Settings} {i : Nat} (within : i < 7) (taken : s.settings = takenSettings i t)
    (own : isStation t.station = true) (free : findNode s.nodes t.station = none) :
    settingWrite s i (byteAt (((settingsBytes t).drop (i * 1)).take 1) 0) = some (takenSettings (i + 1) t) := by
  have direction (k : Nat) (h : k < 4) : byteAt (((settingsBytes t).drop ((k + 3) * 1)).take 1) 0 = markByte t.toConsole[k] := by
    simp [settingsBytes, byteAt, h]
  have stored (k : Nat) (h : k < 4) : (takenSettings (k + 3) t).toConsole.set k (markByte t.toConsole[k] == 1) =
      (takenSettings (k + 4) t).toConsole := by
    rw [(markByte_read _).2]
    exact filled_set t.toConsole (Vector.replicate 4 false) h
  have others (k : Nat) : { takenSettings (k + 3) t with toConsole := (takenSettings (k + 4) t).toConsole } =
      takenSettings (k + 4) t := by
    simp [takenSettings]
  have accepts (k : Nat) (h : k < 4) :
      (let b := byteAt (((settingsBytes t).drop ((k + 3) * 1)).take 1) 0
        if b.toNat ≤ 1 then
          some { takenSettings (k + 3) t with toConsole := (takenSettings (k + 3) t).toConsole.set k (b == 1) }
        else none) = some (takenSettings (k + 4) t) := by
    dsimp only
    rw [direction k h, if_pos (markByte_read _).1, stored k h, others]
  have own' : 1 ≤ t.station.toNat ∧ t.station.toNat ≤ 126 := by simpa [isStation] using own
  unfold settingWrite
  rw [taken]
  match i, within with
  | 0, _ =>
    have unheld : (findNode s.nodes t.station).isNone = true := by
      rw [free]
      rfl
    exact if_pos ⟨own'.1, own'.2, unheld⟩
  | 1, _ => cases mode : t.mode <;> simp [settingsBytes, byteAt, mode, modeCode, byteOf, takenSettings]
  | 2, _ =>
    have read : byteAt (((settingsBytes t).drop (2 * 1)).take 1) 0 = markByte t.holdBit := rfl
    simp only [read, (markByte_read _).1, (markByte_read _).2, if_true]
    simp [takenSettings]
  | 3, _ => exact accepts 0 (by omega)
  | 4, _ => exact accepts 1 (by omega)
  | 5, _ => exact accepts 2 (by omega)
  | 6, _ => exact accepts 3 (by omega)

/-- A state with the tables that the load writes replaced, and the home timer, which the channel mode's byte may start. -/
def withTables (u : State) (home : Option Timer) (settings : Settings) (notices : Vector Notice 12) (nodes : NodeTable)
    (filters : FilterTable) : State :=
  { u with
    nodes := nodes, filters := filters, settings := settings
    orders := { u.orders with home := home, notices := notices } }

theorem startHome_home (s : State) : ∃ home, startHome s = s.setOrders { s.orders with home := home } := by
  unfold startHome
  split
  · exact ⟨_, rfl⟩
  · exact ⟨s.orders.home, rfl⟩

theorem followMode_home (i : Nat) (s : State) : ∃ home, followMode i s = s.setOrders { s.orders with home := home } := by
  unfold followMode
  split
  · exact ⟨s.orders.home, rfl⟩
  · split
    · exact ⟨none, rfl⟩
    · exact startHome_home s

theorem writeSetting_withTables {u : State} {home : Option Timer} {settings written : Settings}
    {notices : Vector Notice 12} {nodes : NodeTable} {filters : FilterTable} {i : Nat} {bytes : List Byte}
    (accepted : settingWrite (withTables u home settings notices nodes filters) i (byteAt bytes 0) = some written) :
    ∃ home', writeSetting i bytes (withTables u home settings notices nodes filters) =
      some (withTables u home' written notices nodes filters) := by
  obtain ⟨home', followed⟩ := followMode_home i ((withTables u home settings notices nodes filters).setSettings written)
  refine ⟨home', ?_⟩
  rw [writeSetting, accepted, Option.map_some, followed]
  rfl

theorem writeNotice_withTables (u : State) (home : Option Timer) (settings : Settings)
    (notices : Vector Notice 12) (nodes : NodeTable) (filters : FilterTable) {i : Nat} (h : i < 12) (bytes : List Byte) :
    writeNotice i bytes (withTables u home settings notices nodes filters) =
      some (withTables u home settings (modifyAt notices ⟨i, h⟩ fun n => noticeWrite n (byteAt bytes 0)) nodes filters) :=
  dif_pos h

theorem writeNode_withTables {u : State} {home : Option Timer} {settings : Settings}
    {notices : Vector Notice 12} {nodes : NodeTable} {filters : FilterTable} {i : Nat} (h : i < 64) {bytes : List Byte}
    {entry : Option Node}
    (accepted : nodeWrite (withTables u home settings notices nodes filters) ⟨i, h⟩ bytes = some entry)
    (present : nodeLost nodes = false) (present' : nodeLost (nodes.set i entry) = false) :
    writeNode i bytes (withTables u home settings notices nodes filters) =
      some (withTables u home settings notices (nodes.set i entry) filters) := by
  have quiet : setNodesReporting (nodes.set i entry) (withTables u home settings notices nodes filters) =
      withTables u home settings notices (nodes.set i entry) filters := by
    have same : (nodeLost (withTables u home settings notices nodes filters).nodes == nodeLost (nodes.set i entry)) = true := by
      rw [present', show nodeLost (withTables u home settings notices nodes filters).nodes = false from present]
      rfl
    exact if_pos same
  rw [writeNode, dif_pos h, accepted, Option.map_some, ← quiet]
  rfl

theorem writeFilter_withTables {u : State} {home : Option Timer} {settings : Settings}
    {notices : Vector Notice 12} {nodes : NodeTable} {filters : FilterTable} {i : Nat} (h : i < 16) {bytes : List Byte}
    {entry : Option FilterEntry} (accepted : filterWrite bytes = some entry) :
    writeFilter i bytes (withTables u home settings notices nodes filters) =
      some (withTables u home settings notices nodes (filters.set i entry)) := by
  rw [writeFilter, dif_pos h, accepted]
  rfl

/-- An empty node table. -/
def noNodes : NodeTable := Vector.replicate 64 none

/-- An empty filter table. -/
def noFilters : FilterTable := Vector.replicate 16 none

theorem findNode_noNodes (station : Byte) : findNode noNodes station = none :=
  findNode_none.mpr fun j n here => by simp [noNodes] at here

theorem settings_loaded (u : State) {saved : State} (own : isStation saved.settings.station = true)
    (home : Option Timer) (notices : Vector Notice 12) : ∃ home',
      loadPart writeSetting 0 1 7 (imageOf saved) ⟨withTables u home defaultSettings notices noNodes noFilters, false⟩ =
        ⟨withTables u home' saved.settings notices noNodes noFilters, false⟩ := by
  obtain ⟨t, loaded, home', rfl⟩ := loadPart_accepts (write := writeSetting) (base := 0) (size := 1) (count := 7)
    (image := imageOf saved) (w := ⟨withTables u home defaultSettings notices noNodes noFilters, false⟩)
    (fun i s => ∃ home', s = withTables u home' (takenSettings i saved.settings) notices noNodes noFilters)
    (by
      rintro i _ within ⟨home', rfl⟩
      obtain ⟨home'', written⟩ := writeSetting_withTables (settingWrite_taken within
        (s := withTables u home' (takenSettings i saved.settings) notices noNodes noFilters) rfl own
        (findNode_noNodes _))
      exact ⟨_, by rw [image_setting saved within]; exact written, home'', rfl⟩)
    ⟨home, by rw [takenSettings_none]⟩
  exact ⟨home', by rw [takenSettings_all] at loaded; exact loaded⟩

/-- The notices that an image gives: their statuses stand as they stood. -/
def loadedNotices (saved now : Vector Notice 12) : Vector Notice 12 :=
  Vector.ofFn fun k => { saved[k] with status := now[k].status }

theorem notices_loaded (u saved : State) (home : Option Timer) (settings : Settings) (notices : Vector Notice 12) :
    loadPart writeNotice 7 1 12 (imageOf saved) ⟨withTables u home settings notices noNodes noFilters, false⟩ =
      ⟨withTables u home settings (loadedNotices saved.orders.notices notices) noNodes noFilters, false⟩ := by
  obtain ⟨t, loaded, rfl⟩ := loadPart_accepts (write := writeNotice) (base := 7) (size := 1) (count := 12)
    (image := imageOf saved) (w := ⟨withTables u home settings notices noNodes noFilters, false⟩)
    (fun i s => s = withTables u home settings (filled i (loadedNotices saved.orders.notices notices) notices)
      noNodes noFilters)
    (by
      rintro i _ within rfl
      have entry : noticeWrite notices[i] (noticeByte saved.orders.notices[i]) =
          (loadedNotices saved.orders.notices notices)[i] := by
        rw [noticeWrite_noticeByte]
        simp [loadedNotices]
      have table := filled_modifyAt within (f := fun n => noticeWrite n (noticeByte saved.orders.notices[i])) entry
      refine ⟨_, ?_, rfl⟩
      rw [image_notice saved within, writeNotice_withTables _ _ _ _ _ _ within, ← table]
      rfl)
    (by rw [filled_none])
  rw [filled_all] at loaded
  exact loaded

/-- A stored node as the load leaves it, its runtime fields at their start values. -/
def loadedNode (entry : Option Node) : Option Node := entry.map fun n => ⟨n.entry, freshRuntime⟩

/-- The node table that an image gives. -/
def loadedNodes (nodes : NodeTable) : NodeTable := nodes.map loadedNode

/-- No entry that the load has written is ABSENT. -/
theorem nodeLost_filled (nodes : NodeTable) (n : Nat) : nodeLost (filled n (loadedNodes nodes) noNodes) = false := by
  unfold nodeLost
  rw [Vector.any_toList, Vector.any_eq_false]
  intro i h
  rw [filled_getElem]
  split
  · simp only [loadedNodes, Vector.getElem_map, loadedNode]
    cases nodes[i] <;> simp [isAbsent, freshRuntime]
  · simp [noNodes, isAbsent]

theorem filled_loadedNodes_some {nodes : NodeTable} {n : Nat} {j : Fin 64} {m : Node}
    (there : (filled n (loadedNodes nodes) noNodes)[j] = some m) : ∃ k, nodes[j] = some k ∧ k.entry = m.entry := by
  rw [Fin.getElem_fin, filled_getElem] at there
  split at there
  · simp only [loadedNodes, Vector.getElem_map, loadedNode, Option.map_eq_some_iff] at there
    obtain ⟨k, here, rfl⟩ := there
    exact ⟨k, here, rfl⟩
  · simp [noNodes] at there

/-- Each stored entry of a lawful table is accepted behind those below it. -/
theorem nodeWrite_loaded {saved : State} (law : NodeLaw saved) {s : State} {i : Nat} (h : i < 64)
    (settings : s.settings = saved.settings) (nodes : s.nodes = filled i (loadedNodes saved.nodes) noNodes) :
    nodeWrite s ⟨i, h⟩ (nodeBytes saved.nodes[i]) = some (loadedNodes saved.nodes)[i] := by
  obtain ⟨stored, once, _⟩ := law
  simp only [loadedNodes, Vector.getElem_map]
  cases here : saved.nodes[i] with
  | none => rfl
  | some n =>
    obtain ⟨form, other⟩ := stored ⟨i, h⟩ n here
    refine nodeWrite_nodeBytes form (stationFits_iff.mpr ⟨form.1, form.2.1, settings ▸ other,
      fun j m differs there same => ?_⟩)
    rw [nodes] at there
    obtain ⟨k, at', is⟩ := filled_loadedNodes_some there
    exact differs (once j ⟨i, h⟩ k n at' here (is ▸ same))

theorem nodes_loaded (u : State) {saved : State} (law : NodeLaw saved) (home : Option Timer)
    (notices : Vector Notice 12) :
    loadPart writeNode 19 10 64 (imageOf saved) ⟨withTables u home saved.settings notices noNodes noFilters, false⟩ =
      ⟨withTables u home saved.settings notices (loadedNodes saved.nodes) noFilters, false⟩ := by
  obtain ⟨t, loaded, rfl⟩ := loadPart_accepts (write := writeNode) (base := 19) (size := 10) (count := 64)
    (image := imageOf saved) (w := ⟨withTables u home saved.settings notices noNodes noFilters, false⟩)
    (fun i s => s = withTables u home saved.settings notices (filled i (loadedNodes saved.nodes) noNodes) noFilters)
    (by
      rintro i _ within rfl
      have table := filled_set (loadedNodes saved.nodes) noNodes within
      have accepted : nodeWrite (withTables u home saved.settings notices (filled i (loadedNodes saved.nodes) noNodes)
          noFilters) ⟨i, within⟩ (nodeBytes saved.nodes[i]) = some (loadedNodes saved.nodes)[i] :=
        nodeWrite_loaded law within rfl rfl
      refine ⟨_, ?_, rfl⟩
      rw [image_node saved within, writeNode_withTables within accepted (nodeLost_filled saved.nodes i)
        (by rw [table]; exact nodeLost_filled saved.nodes (i + 1)), table])
    (by rw [filled_none])
  rw [filled_all] at loaded
  exact loaded

theorem filters_loaded (u saved : State) (home : Option Timer) (settings : Settings) (notices : Vector Notice 12)
    (nodes : NodeTable) :
    loadPart writeFilter 659 5 16 (imageOf saved) ⟨withTables u home settings notices nodes noFilters, false⟩ =
      ⟨withTables u home settings notices nodes saved.filters, false⟩ := by
  obtain ⟨t, loaded, rfl⟩ := loadPart_accepts (write := writeFilter) (base := 659) (size := 5) (count := 16)
    (image := imageOf saved) (w := ⟨withTables u home settings notices nodes noFilters, false⟩)
    (fun i s => s = withTables u home settings notices nodes (filled i saved.filters noFilters))
    (by
      rintro i _ within rfl
      have table := filled_set saved.filters noFilters within
      refine ⟨_, ?_, rfl⟩
      rw [image_filter saved within, writeFilter_withTables within (filterWrite_filterBytes _), table])
    (by rw [filled_none])
  rw [filled_all] at loaded
  exact loaded

theorem fields_of_three {image : List Byte} {k : Nat} {a b c : Byte} (cut : (image.drop k).take 3 = [a, b, c]) :
    field image k 1 = a.toNat ∧ field image (k + 1) 1 = b.toNat ∧ field image (k + 2) 1 = c.toNat := by
  obtain ⟨rest, bytes⟩ : ∃ rest, image.drop k = a :: b :: c :: rest :=
    ⟨(image.drop k).drop 3, (List.take_append_drop 3 (image.drop k)).symm.trans (by rw [cut]; rfl)⟩
  unfold field
  rw [← List.drop_drop, ← List.drop_drop, bytes]
  exact ⟨by simp [number], by simp [number], by simp [number]⟩

/-- A stored pattern set is read back as it was. -/
theorem imagePattern_imageOf {saved : State} (i : Fin 3) (stored : PatternStored saved.lamps.patterns[i]) :
    imagePattern (imageOf saved) i = storedSet saved.lamps.patterns[i] := by
  have fits : PatternFits (storedSet saved.lamps.patterns[i]) := by
    obtain ⟨live, staged⟩ := stored
    unfold storedSet
    cases here : saved.lamps.patterns[i].staged with
    | none => exact live
    | some set => exact staged set here
  have cut := image_pattern saved i.isLt
  rw [Nat.mul_comm] at cut
  obtain ⟨period, on, off⟩ := fields_of_three cut
  obtain ⟨low, high, order, within⟩ := fits
  rw [show 739 + 3 * i.val + 1 = 740 + 3 * i.val by omega] at on
  rw [show 739 + 3 * i.val + 2 = 741 + 3 * i.val by omega] at off
  unfold imagePattern
  rw [period, on, off]
  simp only [Fin.getElem_fin] at low high order within ⊢
  rw [byteOf_toNat (by omega), byteOf_toNat (by omega), byteOf_toNat (by omega)]
  simp only [clampPattern]
  rw [Nat.max_eq_right low, Nat.min_eq_right (by omega), Nat.min_eq_right within, Nat.max_eq_right order]

/-- The image that SAVE stores is a good one (R174). -/
theorem imageGood_imageOf {saved : State} (own : isStation saved.settings.station = true) :
    imageGood true (imageOf saved) = true := by
  have check : crc16 (imageOf saved) = 0#16 := (crc16_checked _ _ (be16_length _)).mpr rfl
  have notBlank : (imageOf saved).all (fun b => b == 255) = false := by
    have first : saved.settings.station ∈ imageOf saved := by simp [imageOf_eq, settingsBytes]
    rw [List.all_eq_false]
    refine ⟨_, first, fun blank => ?_⟩
    rw [show saved.settings.station = 255 by simpa using blank] at own
    exact nomatch own
  rw [imageGood, notBlank, check]
  rfl

/-- Taking a stored image in refuses nothing and leaves its tables (R175). -/
theorem takeImage_imageOf {saved : State} (law : NodeLaw saved) (u : State) : ∃ home,
    takeImage (imageOf saved) u = ⟨setPatterns (imagePattern (imageOf saved))
      (withTables (defaultParts u) home saved.settings (loadedNotices saved.orders.notices (defaultParts u).orders.notices)
        (loadedNodes saved.nodes) saved.filters), false⟩ := by
  obtain ⟨home, settings⟩ := settings_loaded (defaultParts u) law.2.2 (defaultParts u).orders.home
    (defaultParts u).orders.notices
  have start : defaultParts u = withTables (defaultParts u) (defaultParts u).orders.home defaultSettings
    (defaultParts u).orders.notices noNodes noFilters := rfl
  refine ⟨home, ?_⟩
  unfold takeImage
  conv =>
    lhs
    rw [start]
  dsimp only
  rw [settings, notices_loaded, nodes_loaded _ law, filters_loaded]

theorem finishLoad_good {s : State} {image : List Byte} {t : State} (here : s.loader.memory.bytes 750 = image)
    (good : imageGood true image = true) (taken : takeImage image s = ⟨t, false⟩) :
    finishLoad true s = t.setLoader { t.loader with load := .done, hold := t.loader.hold || t.settings.holdBit } := by
  have here' : s.loader.memory.bytes imageSize = image := here
  simp [finishLoad, here', good, taken]

/-- Settles O7: each part of the image is accepted entry by entry, as its table's rule reads back what the entry's bytes
spell. -/
theorem loadTakesBackSavedTables : Obligations.LoadTakesBackSavedTables := by
  intro now s saved loading law stored image
  obtain ⟨home, taken⟩ := takeImage_imageOf law (advanceTo now s)
  refine ⟨_, (exec_loadDone loading).trans (congrArg Host.Outcome.next
    (finishLoad_good (s := advanceTo now s) image (imageGood_imageOf law.2.2) taken)),
    rfl, rfl, fun i => ?_, fun k => ?_, fun p => ?_, rfl, rfl, rfl, rfl⟩
  · simp [setPatterns, withTables, loadedNodes, loadedNode]
  · simp [setPatterns, withTables, loadedNotices, defaultParts, advanceTo, runOrders]
  · have pattern := setPatterns_pattern (imagePattern (imageOf saved)) (withTables (defaultParts (advanceTo now s)) home
      saved.settings (loadedNotices saved.orders.notices (defaultParts (advanceTo now s)).orders.notices)
      (loadedNodes saved.nodes) saved.filters) p
    rw [imagePattern_imageOf p (stored p)] at pattern
    exact ⟨congrArg Pattern.live pattern, congrArg Pattern.staged pattern, congrArg Pattern.force pattern⟩

end Sys2Proof.Machine
end
section
/-! Backup fusion, the placing rule, and the tally unit. -/

namespace Sys2Proof.Machine

/-! ### Backup fusion (R54) -/

/-- Settles O22: the median of three is fixed by their sum and their members. -/
theorem backupFusionRule : Obligations.BackupFusionRule := by
  refine ⟨rfl, fun _ => rfl, fun a b => ⟨_, rfl, by omega, by omega⟩, ?median, ?range⟩
  case median =>
    intro a b c low mid high same lowMid midHigh
    have times := same.map fun x => x.time
    have sum : a.time + b.time + c.time = low.time + mid.time + high.time := by
      have := times.foldr_eq' (f := (· + ·)) (fun _ _ _ _ _ => by omega) (0 : Int)
      simp only [List.map_cons, List.map_nil, List.foldr_cons, List.foldr_nil] at this
      omega
    have member {x : Sample} (mem : x ∈ [a, b, c]) : x.time = low.time ∨ x.time = mid.time ∨ x.time = high.time := by
      have := times.subset (List.mem_map_of_mem (f := fun x : Sample => x.time) mem)
      simpa using this
    have := member (x := a) (by simp)
    have := member (x := b) (by simp)
    have := member (x := c) (by simp)
    simp only [backupTime, median, Option.some.injEq]
    omega
  case range =>
    intro samples t short is
    match samples, short with
    | [], _ => exact nomatch is
    | [a], _ =>
      obtain rfl := Option.some.inj is
      exact ⟨⟨a, by simp, by omega⟩, a, by simp, by omega⟩
    | [a, b], _ =>
      obtain rfl := Option.some.inj is
      rcases Int.le_total a.time b.time with le | le
      · exact ⟨⟨a, by simp, by omega⟩, b, by simp, by omega⟩
      · exact ⟨⟨b, by simp, by omega⟩, a, by simp, by omega⟩
    | [a, b, c], _ =>
      obtain rfl := Option.some.inj is
      have one : ∃ x ∈ [a, b, c], x.time = median a.time b.time c.time := by
        have : a.time = median a.time b.time c.time ∨ b.time = median a.time b.time c.time
            ∨ c.time = median a.time b.time c.time := by
          unfold median
          omega
        simpa using this
      obtain ⟨x, mem, is⟩ := one
      exact ⟨⟨x, mem, Int.le_of_eq is⟩, x, mem, Int.le_of_eq is.symm⟩

/-! ### The placing rule (R114, R115) -/

theorem takesPart_iff {h : HeatState} {r : LaneRecord} {time : Int} :
    TakesPart h r time ↔ placingTime h r = some time := by
  unfold TakesPart placingTime
  cases r.dq <;> by_cases closed : h = .closed <;> by_cases finished : r.state = .finished <;> simp [closed, finished]

/-- A lane's place decides nothing about its part in the placing. -/
theorem placingTime_place (h : HeatState) (r : LaneRecord) (place : Option Nat) :
    placingTime h { r with place := place } = placingTime h r := rfl

theorem insertFinish_perm (p : Lane × Int) (field : List (Lane × Int)) : (insertFinish p field).Perm (p :: field) := by
  induction field with
  | nil => exact .refl _
  | cons q rest ih =>
    unfold insertFinish
    split
    · exact .refl _
    · exact (ih.cons q).trans (.swap p q rest)

theorem finishOrder_perm (field : List (Lane × Int)) : (finishOrder field).Perm field := by
  induction field with
  | nil => exact .refl _
  | cons p rest ih => exact (insertFinish_perm p _).trans (ih.cons p)

theorem standsBefore_iff {p q : Lane × Int} : standsBefore p q = true ↔
    p.2 / 10000 < q.2 / 10000
      ∨ (p.2 / 10000 = q.2 / 10000 ∧ (p.2 < q.2 ∨ (p.2 = q.2 ∧ p.1.val < q.1.val))) := by
  rw [standsBefore, Bool.or_eq_true, decide_eq_true_iff]
  show _ ↔ _ ∨ (_ ∧ (_ ∨ (_ ∧ p.1 < q.1)))
  simp [hundredths]

/-- A list in which none stands before one that comes earlier. -/
def InFinishOrder (field : List (Lane × Int)) : Prop := field.Pairwise fun p q => standsBefore q p ≠ true

theorem insertFinish_inOrder {p : Lane × Int} {field : List (Lane × Int)} (ordered : InFinishOrder field) :
    InFinishOrder (insertFinish p field) := by
  induction field with
  | nil => exact List.pairwise_singleton _ p
  | cons q rest ih =>
    obtain ⟨first, behind⟩ := List.pairwise_cons.mp ordered
    unfold insertFinish
    split
    · next before =>
      refine List.pairwise_cons.mpr ⟨fun r mem => ?_, ordered⟩
      rcases List.mem_cons.mp mem with rfl | mem
      · rw [standsBefore_iff] at before
        rw [ne_eq, standsBefore_iff]
        omega
      · have later := first r mem
        rw [ne_eq, standsBefore_iff] at later ⊢
        rw [standsBefore_iff] at before
        omega
    · next notBefore =>
      refine List.pairwise_cons.mpr ⟨fun r mem => ?_, ih behind⟩
      rcases List.mem_cons.mp ((insertFinish_perm p rest).subset mem) with rfl | mem
      · exact notBefore
      · exact first r mem

theorem finishOrder_inOrder (field : List (Lane × Int)) : InFinishOrder (finishOrder field) := by
  induction field with
  | nil => exact List.Pairwise.nil
  | cons p rest ih => exact insertFinish_inOrder ih

theorem mem_participants {s : State} {lane : Lane} {time : Int} :
    (lane, time) ∈ participants s ↔ placingTime s.heat.state s.lanes[lane] = some time := by
  unfold participants
  rw [List.mem_filterMap]
  constructor
  · rintro ⟨other, _, is⟩
    obtain ⟨t, part, same⟩ := Option.map_eq_some_iff.mp is
    obtain ⟨rfl, rfl⟩ := Prod.mk.inj same
    exact part
  · intro part
    exact ⟨lane, List.mem_finRange lane, by rw [part]; rfl⟩

theorem timed_lanes (times : Lane → Option Int) (lanes : List Lane) :
    (lanes.filterMap fun lane => (times lane).map fun t => (lane, t)).map Prod.fst =
      lanes.filter fun lane => (times lane).isSome := by
  induction lanes with
  | nil => rfl
  | cons lane rest ih => cases part : times lane <;> simp [part, ih]

theorem timed_below (times : Lane → Option Int) (lanes : List Lane) (time : Int) :
    ((lanes.filterMap fun lane => (times lane).map fun t => (lane, t)).filter
        fun p => decide (hundredths p.2 < hundredths time)).length =
      (lanes.filter fun lane => match times lane with
        | some t => decide (t / 10000 < time / 10000)
        | none => false).length := by
  induction lanes with
  | nil => rfl
  | cons lane rest ih =>
    cases part : times lane with
    | none => simpa [part] using ih
    | some t => by_cases before : t / 10000 < time / 10000 <;> simpa [part, hundredths, before] using ih

theorem participants_lanes (s : State) : ((participants s).map Prod.fst).Nodup := by
  have lanes : (participants s).map Prod.fst =
      allLanes.filter fun lane => (placingTime s.heat.state s.lanes[lane]).isSome :=
    timed_lanes (fun lane => placingTime s.heat.state s.lanes[lane]) allLanes
  rw [lanes]
  exact (List.nodup_finRange 10).filter _

/-- The place of a time counts the lanes that take part with strictly smaller hundredths. -/
theorem placeAmong_participants (s : State) (time : Int) : placeAmong (participants s) time =
    1 + (allLanes.filter fun other =>
      match placingTime s.heat.state s.lanes[other] with
      | some t => decide (t / 10000 < time / 10000)
      | none => false).length :=
  congrArg (1 + ·) (timed_below (fun lane => placingTime s.heat.state s.lanes[lane]) allLanes time)

/-- In the finish order list two lanes stand as their times and numbers order them (R115). -/
theorem finishOrder_sorted {field : List (Lane × Int)} (lanes : (field.map Prod.fst).Nodup) :
    (finishOrder field).Pairwise fun p q => p.2 / 10000 < q.2 / 10000
      ∨ (p.2 / 10000 = q.2 / 10000 ∧ (p.2 < q.2 ∨ (p.2 = q.2 ∧ p.1 < q.1))) := by
  have once : (finishOrder field).Pairwise fun p q => p.1 ≠ q.1 :=
    List.pairwise_map.mp (((finishOrder_perm field).map Prod.fst).nodup_iff.mpr lanes)
  refine ((finishOrder_inOrder field).and once).imp fun {p q} both => ?_
  obtain ⟨notBefore, differ⟩ := both
  rw [ne_eq, standsBefore_iff] at notBefore
  have := Fin.val_ne_of_ne differ
  rw [Fin.lt_def]
  omega

theorem runPlacing_lane (s : State) (lane : Lane) : (runPlacing s).lanes[lane] = { s.lanes[lane] with
    place := (placingTime s.heat.state s.lanes[lane]).map (placeAmong (participants s)) } := by
  simp [runPlacing]

/-- Settles O23: the lanes that take part are listed with their times, counted for the places and sorted for the order. -/
theorem placingRule : Obligations.PlacingRule := by
  intro s
  have part (lane : Lane) (time : Int) : TakesPart s.heat.state (runPlacing s).lanes[lane] time ↔
      (lane, time) ∈ participants s := by
    rw [takesPart_iff, runPlacing_lane, placingTime_place, mem_participants]
  have listed (lane : Lane) : lane ∈ (runPlacing s).results.order ↔ ∃ time, (lane, time) ∈ participants s := by
    have order : (runPlacing s).results.order = (finishOrder (participants s)).map Prod.fst := rfl
    rw [order, ((finishOrder_perm _).map _).mem_iff, List.mem_map]
    simp
  refine ⟨⟨fun lane time takes => ?placed, fun lane none => ?noPlace, ?once, fun lane => ?members, ?sorted⟩,
    fun lane => ?record, rfl⟩
  case placed =>
    have here := mem_participants.mp ((part lane time).mp takes)
    have others : ∀ other : Lane, placingTime s.heat.state (runPlacing s).lanes[other] =
        placingTime s.heat.state s.lanes[other] := fun other => by rw [runPlacing_lane, placingTime_place]
    simp only [others]
    rw [runPlacing_lane, here]
    exact congrArg some (placeAmong_participants s time)
  case noPlace =>
    have : placingTime s.heat.state s.lanes[lane] = Option.none :=
      Option.eq_none_iff_forall_ne_some.mpr fun time is => none time ((part lane time).mpr (mem_participants.mpr is))
    rw [runPlacing_lane, this]
    rfl
  case once => exact (((finishOrder_perm _).map _).nodup_iff).mpr (participants_lanes s)
  case members => exact (listed lane).trans (exists_congr fun time => (part lane time).symm)
  case sorted =>
    refine List.pairwise_map.mpr ((finishOrder_sorted (participants_lanes s)).imp_of_mem
      fun {p q} memP memQ ordered ta tb first second => ?_)
    have time {p : Lane × Int} (mem : p ∈ finishOrder (participants s)) {t : Int}
        (takes : TakesPart s.heat.state (runPlacing s).lanes[p.1] t) : p.2 = t := by
      have here := mem_participants.mp ((finishOrder_perm _).subset mem)
      exact Option.some.inj (here.symm.trans (mem_participants.mp ((part _ _).mp takes)))
    rwa [← time memP first, ← time memQ second]
  case record => rw [runPlacing_lane]

/-! ### Tally events (R169, R170) -/

theorem stationAgrees_iff {mask value a : Byte} :
    StationAgrees mask value a ↔ a &&& mask = value &&& mask := by
  constructor
  · intro agrees
    apply BitVec.eq_of_getLsbD_eq
    intro k within
    have bit := agrees k within
    simp only [BitVec.getLsbD_and]
    cases here : mask.getLsbD k with
    | false => simp
    | true => simp [bit here]
  · intro same k _ here
    have bit := congrArg (fun v => v.getLsbD k) same
    simpa [here] using bit

theorem counterMatches_iff {c : TallyCounter} {e : TallyEvent} {lane : Option Lane} {station : Option Byte} :
    counterMatches c e lane station = true ↔ CountsOn c e lane station := by
  unfold counterMatches CountsOn
  cases lane <;> cases station <;> simp [stationAgrees_iff, and_assoc]

theorem raiseCount_eq (c : TallyCounter) : raiseCount c = { c with
    count := BitVec.ofNat 24 ((c.count.toNat + 1) % 16777216), overflow := c.overflow || c.count == 16777215 } := by
  have count : c.count + 1 = BitVec.ofNat 24 ((c.count.toNat + 1) % 16777216) := by
    apply BitVec.eq_of_toNat_eq
    simp
  rw [raiseCount, count]
  rfl

theorem tallyAfter_frozen {t : TallyUnit} (frozen : t.frozen = true) (e : TallyEvent) (lane : Option Lane)
    (station : Option Byte) : tallyAfter t e lane station = t := if_pos frozen

theorem tallyAfter_freezes {t : TallyUnit} (running : t.frozen = false) (e : TallyEvent) (lane : Option Lane)
    (station : Option Byte) : (tallyAfter t e lane station).frozen = true ↔ t.freezeOnOverflow = true
      ∧ ∃ i : Fin 8, CountsOn t.counters[i] e lane station ∧ t.counters[i].count = 16777215 := by
  unfold tallyAfter
  rw [if_neg (by simp [running])]
  simp only [Bool.and_eq_true, Vector.any_toList, Vector.any_eq_true, wouldOverflow, beq_iff_eq, counterMatches_iff]
  exact and_congr_right fun _ => (Fin.exists_iff
    (p := fun i : Fin 8 => CountsOn t.counters[i] e lane station ∧ t.counters[i].count = 16777215)).symm

/-- With a place free for a NOTICE the tallies stand as the event leaves them. -/
theorem count_tally_free {s : State} (free : PlacesFree 1 s) (e : TallyEvent) (lane : Option Lane)
    (station : Option Byte) : (count e lane station s).tally = tallyAfter s.tally e lane station := by
  obtain ⟨noPlace, room⟩ := free
  have one : placesTaken s.board.reserved s.board.queue < 32 := by
    have : s.board.queue.length + 1 ≤ 32 := room
    simp only [placesTaken, noPlace]
    exact this
  unfold count countWith
  split
  · dsimp only
    rw [raise_free (s := s.setTally (tallyAfter s.tally e lane station)) one]
    rfl
  · rfl

theorem tallyAlarms_iff {t : TallyUnit} {e : TallyEvent} {lane : Option Lane} {station : Option Byte} :
    tallyAlarms t e lane station = true ↔ ∃ i : Fin 8, t.frozen = false ∧ CountsOn t.counters[i] e lane station
      ∧ t.counters[i].count = 16777215 ∧ t.counters[i].overflowNotice = true := by
  have some_overflows : (∃ i : Fin 8, CountsOn t.counters[i] e lane station
      ∧ t.counters[i].count = 16777215 ∧ t.counters[i].overflowNotice = true) ↔ _ :=
    Fin.exists_iff (p := fun i : Fin 8 => CountsOn t.counters[i] e lane station
      ∧ t.counters[i].count = 16777215 ∧ t.counters[i].overflowNotice = true)
  unfold tallyAlarms
  simp only [Bool.and_eq_true, Bool.not_eq_true', Vector.any_toList, Vector.any_eq_true, wouldOverflow, beq_iff_eq,
    counterMatches_iff, and_assoc, exists_and_left, some_overflows]
  rfl

/-- Settles O27: a bad board telegram is `count` of BAD_CHECK, whichever of the three it is. -/
theorem tallyEventsCount : Obligations.TallyEventsCount := by
  refine ⟨fun t e lane station => ⟨fun frozen => tallyAfter_frozen frozen e lane station, fun running =>
    ⟨fun i => ⟨fun not => ?_, fun counts => ?_⟩, tallyAfter_mode t e lane station, tallyAfter_freezes running e lane station⟩⟩,
    fun now src kind payload s free => ⟨count .badCheck none none (advanceTo now s), rfl, rfl, rfl,
      count_onlyAnnounces .badCheck none none _, count_tally_free (s := advanceTo now s) free _ _ _, fun alarms => ?_⟩⟩
  · rw [Fin.getElem_fin, tallyAfter_counter, if_neg fun h => not (counterMatches_iff.mp h.2)]
    rfl
  · rw [Fin.getElem_fin, tallyAfter_counter, if_pos ⟨running, counterMatches_iff.mpr counts⟩, raiseCount_eq]
    rfl
  · have raised : count .badCheck none none (advanceTo now s) = raise .tallyOverflow _ :=
      if_pos (tallyAlarms_iff.mpr alarms)
    rw [raised]
    exact raise_sets _ _

end Sys2Proof.Machine
end
section
/-! The board line: the receiver reads back what a console sends, telegrams move toward the line and the deck, and a console
order that finds no place. -/

namespace Sys2Proof.Machine

/-! ### Frames read back (R1 to R6) -/

/-- A telegram framed is received as itself: its length is its payload's and its check holds. -/
theorem receive_frame {t : Telegram} (fits : t.payload.length ≤ 48) : receive (frame t) = .good t := by
  obtain ⟨dest, src, kind, payload⟩ := t
  have length : (byteOf payload.length).toNat = payload.length := byteOf_toNat (Nat.lt_of_le_of_lt fits (by omega))
  have bytes : frame ⟨dest, src, kind, payload⟩ = dest :: src :: kind :: byteOf payload.length ::
      (payload ++ be16 (crc16 (headAndPayload ⟨dest, src, kind, payload⟩))) := rfl
  have whole : (frame ⟨dest, src, kind, payload⟩).length = 6 + payload.length := by
    rw [bytes]
    simp [be16_length]
    omega
  have check : crc16 (frame ⟨dest, src, kind, payload⟩) = 0#16 := (crc16_checked _ _ (be16_length _)).mpr rfl
  rw [bytes, receive, ← bytes, length, List.take_of_length_le (Nat.le_of_eq whole), check, if_neg, if_pos rfl,
    List.take_left]
  rw [List.length_append, be16_length]
  simp only at fits
  omega

/-- What a console's order telegram spells. -/
theorem orderTelegram_reads {station src tag : Byte} {now : Tick} {code : Nat} {body : List Byte} {c : Instr}
    (wellFormed : isConsoleOrder src body = true) (spells : orderCommand now src (byteOf code) tag body = c) :
    (orderTelegram station src code tag body).payload.length ≤ 48
      ∧ telegramCommand station now (orderTelegram station src code tag body) = c := by
  have bound : body.length ≤ 44 := by
    simp only [isConsoleOrder, Bool.and_eq_true, decide_eq_true_eq] at wellFormed
    exact wellFormed.2
  refine ⟨by simp [orderTelegram]; omega, ?_⟩
  rw [← spells]
  simp [telegramCommand, orderTelegram]

theorem tctlCommand_unknown {now : Tick} {src tag : Byte} {body : List Byte}
    (others : ([1, 2, 3, 4, 5, 6].any fun a => hasAction a body) = false) :
    tctlCommand now src tag body = .tctlUnknownAction now src tag body := by
  simp [hasAction] at others
  unfold tctlCommand
  split <;> simp_all

theorem boardTelegram_reads {station : Byte} {now : Tick} {c : Instr} {t : Telegram} (wellFormed : WellFormed c = true)
    (tick : commandTick c = some now)
    (elsewhere : ∀ tick dest src kind payload, c = .passThrough tick dest src kind payload → dest ≠ station)
    (spelled : boardTelegram station c = some t) : t.payload.length ≤ 48 ∧ telegramCommand station now t = c := by
  cases c with
  | powerOn | loadDone | saveDone | poll | emptyRound | deckAnswer | answerWindowMiss | deckBadTelegram | commandGap
  | querySent | boardBadTelegram | boardSend | heatLimitExpiry | recallWindowExpiry | clockStepExpiry
  | buttonWindowExpiry | resultHoldExpiry | claimExpiry | handoverExpiry | homeExpiry | chainGapExpiry
  | queryAnswerExpiry | collectionExpiry | lampPhaseStep => exact nomatch spelled
  | stat | lane | tread | treadTally | mailr | mailw | nclr | nqry | relh | crel | arm | endh | abort | clear | mark
  | src | tset | save | trst =>
    obtain rfl := Option.some.inj spelled
    obtain rfl := Option.some.inj tick
    exact orderTelegram_reads wellFormed rfl
  | tctlConfigure | tctlFreeze | tctlUnfreeze | tctlZero | tctlClearOverflow | tctlSetMode =>
    obtain rfl := Option.some.inj spelled
    obtain rfl := Option.some.inj tick
    simp only [WellFormed, Bool.and_eq_true, hasAction, beq_iff_eq] at wellFormed
    obtain ⟨order, action⟩ := wellFormed
    refine orderTelegram_reads order ?_
    change tctlCommand _ _ _ _ = _
    rw [tctlCommand, action]
    rfl
  | tctlUnknownAction =>
    obtain rfl := Option.some.inj spelled
    obtain rfl := Option.some.inj tick
    obtain ⟨order, others⟩ := Bool.and_eq_true_iff.mp wellFormed
    exact orderTelegram_reads order (tctlCommand_unknown (by simpa using others))
  | tloadFirst =>
    obtain rfl := Option.some.inj spelled
    obtain rfl := Option.some.inj tick
    obtain ⟨order, mark⟩ := Bool.and_eq_true_iff.mp wellFormed
    exact orderTelegram_reads order (if_neg (of_decide_eq_true mark))
  | tloadContinuation =>
    obtain rfl := Option.some.inj spelled
    obtain rfl := Option.some.inj tick
    obtain ⟨order, mark⟩ := Bool.and_eq_true_iff.mp wellFormed
    exact orderTelegram_reads order (if_pos (of_decide_eq_true mark))
  | orderUnknownCode tick src tag code body =>
    obtain rfl := Option.some.inj spelled
    obtain rfl := Option.some.inj tick
    obtain ⟨order, unknown⟩ := Bool.and_eq_true_iff.mp wellFormed
    have same : byteOf code.toNat = code := by simp [byteOf]
    refine orderTelegram_reads order ?_
    rw [same, orderCommand, Option.isNone_iff_eq_none.mp unknown]
  | shortOrder tick src payload =>
    obtain rfl := Option.some.inj spelled
    obtain rfl := Option.some.inj tick
    obtain ⟨_, short⟩ := Bool.and_eq_true_iff.mp wellFormed
    have short' : payload.length < 4 := of_decide_eq_true short
    refine ⟨Nat.le_of_lt (Nat.lt_trans short' (by omega)), ?_⟩
    simp only [telegramCommand, ne_eq, not_true_eq_false, if_false]
    match payload, short' with
    | [], _ | [_], _ | [_, _], _ | [_, _, _], _ => rfl
  | boardNonOrder tick src kind payload =>
    obtain rfl := Option.some.inj spelled
    obtain rfl := Option.some.inj tick
    simp only [WellFormed, Bool.and_eq_true, decide_eq_true_eq, fitsPayload] at wellFormed
    obtain ⟨⟨_, other⟩, fits⟩ := wellFormed
    refine ⟨fits, ?_⟩
    simp [telegramCommand, other]
  | passThrough now' dest src kind payload =>
    obtain rfl := Option.some.inj spelled
    obtain rfl := Option.some.inj tick
    obtain ⟨_, fits⟩ := Bool.and_eq_true_iff.mp wellFormed
    exact ⟨of_decide_eq_true fits, if_pos (elsewhere _ dest src kind payload rfl)⟩

/-- Settles O28: each row's telegram fits a frame, the frame is received as it was sent, and the telegram spells the row. -/
theorem boardFrameSpellsCommand : Obligations.BoardFrameSpellsCommand := by
  intro station now c bytes _ wellFormed tick elsewhere framed
  obtain ⟨t, spelled, rfl⟩ := Option.map_eq_some_iff.mp framed
  obtain ⟨fits, reads⟩ := boardTelegram_reads wellFormed tick elsewhere spelled
  rw [boardCommand, receive_frame fits]
  exact reads

/-! ### The board pair and the telegrams passed on (R131, R140) -/

theorem boardIdle_iff {s : State} : boardIdle s = true ↔ ∀ b, s.board.busy = some b → b.span ≤ b.elapsed := by
  unfold boardIdle
  cases s.board.busy <;> simp [timerDue]

theorem execBoardSend_busy {now : Tick} {s : State} (busy : ¬ boardIdle (advanceTo now s) = true) :
    exec (.boardSend now) s = .next (advanceTo now s) := congrArg Host.Outcome.next (if_neg busy)

theorem execBoardSend_idle {now : Tick} {s : State} (idle : boardIdle (advanceTo now s) = true) :
    exec (.boardSend now) s = .next (sendBoardHead (advanceTo now s)) := congrArg Host.Outcome.next (if_pos idle)

theorem boardLineTime_eq (t : Telegram) : boardLineTime t = 10 * (6 + t.payload.length) + 40 := by
  have length : (frame t).length = 6 + t.payload.length := by
    simp [frame, headAndPayload, be16_length]
    omega
  rw [boardLineTime, length]
  rfl

theorem startTimer_now (now : Tick) (span : Nat) : startTimer now now span = freshTimer now span := by
  simp [startTimer, freshTimer]

theorem sendBoardHead_cons {s : State} {t : Telegram} {rest : List Telegram} (queue : s.board.queue = t :: rest) :
    sendBoardHead s = s.setBoard { s.board with
      queue := rest, line := some t, busy := some (freshTimer s.now (10 * (6 + t.payload.length) + 40)) } := by
  simp only [sendBoardHead, queue, boardLineTime_eq, startTimer_now]

theorem sendBoardHead_nil {s : State} (queue : s.board.queue = []) : sendBoardHead s = s := by
  simp [sendBoardHead, queue]

theorem passesThrough_iff {s : State} {dest kind : Byte} : passesThrough s dest kind = true ↔
    (∃ (i : Fin 64) (n : Node), s.nodes[i] = some n ∧ n.entry.station = dest) ∧ 128 ≤ kind.toNat := by
  have held : (findNode s.nodes dest).isSome = true ↔
      ∃ (i : Fin 64) (n : Node), s.nodes[i] = some n ∧ n.entry.station = dest := by
    rw [← Decidable.not_iff_not, Bool.not_eq_true, Option.isSome_eq_false_iff, Option.isNone_iff_eq_none, findNode_none]
    simp
  rw [passesThrough, Bool.and_eq_true, held, decide_eq_true_iff]

theorem insertDeck_passThrough (t : Telegram) (queue : List DeckEntry) : insertDeck ⟨.passThrough, t⟩ queue =
    if (queue.filter fun e => e.origin == .passThrough).length < 4 then some (queue ++ [⟨.passThrough, t⟩]) else none := rfl

theorem offerDeck_passThrough {t : Telegram} {s : State}
    (few : (s.deck.queue.filter fun e => e.origin == .passThrough).length < 4) :
    offerDeck ⟨.passThrough, t⟩ s = s.setDeck { s.deck with queue := s.deck.queue ++ [⟨.passThrough, t⟩] } := by
  rw [offerDeck, insertDeck_passThrough, if_pos few]

theorem offerDeck_passThrough_full {t : Telegram} {s : State}
    (many : 4 ≤ (s.deck.queue.filter fun e => e.origin == .passThrough).length) :
    offerDeck ⟨.passThrough, t⟩ s = count .passDiscard none (some t.dest) s := by
  rw [offerDeck, insertDeck_passThrough, if_neg (Nat.not_lt.mpr many)]

theorem exec_passThrough {now : Tick} {dest src kind : Byte} {payload : List Byte} {s : State}
    (elsewhere : dest ≠ s.settings.station) : exec (.passThrough now dest src kind payload) s = .next
      (if passesThrough s dest kind then offerDeck ⟨.passThrough, ⟨dest, src, kind, payload⟩⟩ (advanceTo now s)
       else count .passDiscard none (some dest) (advanceTo now s)) :=
  congrArg Host.Outcome.next (if_neg elsewhere)

/-- Settles O26: the head leaves an idle pair, and a telegram passed through is offered to the deck or counted. -/
theorem boardLineMovesTelegrams : Obligations.BoardLineMovesTelegrams := by
  refine ⟨fun now s => ⟨fun t rest queue idle => ?_, fun stays => ?_⟩,
    fun now dest src kind payload s elsewhere free => ⟨fun passes few => ?_, fun discarded => ?_⟩⟩
  · rw [execBoardSend_idle (boardIdle_iff.mpr idle), sendBoardHead_cons (s := advanceTo now s) queue]
    rfl
  · by_cases idle : boardIdle (advanceTo now s) = true
    · rcases stays with empty | busy
      · rw [execBoardSend_idle idle, sendBoardHead_nil (s := advanceTo now s) empty]
      · exact absurd (boardIdle_iff.mp idle) busy
    · exact execBoardSend_busy idle
  · rw [exec_passThrough elsewhere, if_pos (passesThrough_iff.mpr passes), offerDeck_passThrough (s := advanceTo now s) few]
    rfl
  · have counted : exec (.passThrough now dest src kind payload) s =
        .next (count .passDiscard none (some dest) (advanceTo now s)) := by
      rw [exec_passThrough elsewhere]
      split
      · next passes =>
        have many := discarded.resolve_left (not_not_intro (passesThrough_iff.mp passes))
        rw [offerDeck_passThrough_full (s := advanceTo now s) many]
      · rfl
    exact ⟨_, counted, count_onlyAnnounces _ _ _ _, count_tally_free (s := advanceTo now s) free _ _ _⟩

/-! ### Orders that find no place (R137 to R139) -/

theorem raise_unplaced_board {s : State} (unplaced : makeRoom s.board.reserved s.board.queue = none) (k : NoticeKind) :
    (raise k s).board = s.board := by
  unfold raise raiseWith
  split
  · rfl
  · dsimp only
    split
    · exact offer_unplaced_board _ (s := setStatus k true s) unplaced
    · rfl

theorem count_unplaced_board {s : State} (unplaced : makeRoom s.board.reserved s.board.queue = none) (e : TallyEvent)
    (lane : Option Lane) (station : Option Byte) : (count e lane station s).board = s.board := by
  unfold count countWith
  dsimp only
  split
  · exact raise_unplaced_board (s := s.setTally (tallyAfter s.tally e lane station)) unplaced .tallyOverflow
  · rfl

theorem refuseUnplaced_board {s : State} (unplaced : makeRoom s.board.reserved s.board.queue = none) (src : Byte) :
    (refuseUnplaced src s).board = s.board := by
  have counted := count_unplaced_board unplaced .boardDiscard none (some src)
  exact (raise_unplaced_board (counted ▸ unplaced) .overrun).trans counted

theorem refuseUnplaced_onlyAnnounces (src : Byte) (s : State) : OnlyAnnounces s (refuseUnplaced src s) :=
  (count_onlyAnnounces _ _ _ _).trans (raise_onlyAnnounces _ _)

theorem refuseUnplaced_set {s : State} (overrun : (s.notice .overrun).status = true)
    (tallyOverflow : (s.notice .tallyOverflow).status = true) (src : Byte) :
    refuseUnplaced src s = s.setTally (tallyAfter s.tally .boardDiscard none (some src)) := by
  have counted : count .boardDiscard none (some src) s = s.setTally (tallyAfter s.tally .boardDiscard none (some src)) := by
    unfold count countWith
    split
    · exact raise_set (k := .tallyOverflow) tallyOverflow
    · rfl
  rw [refuseUnplaced, counted]
  exact raise_set (k := .overrun) overrun

/-- Every row of a code but TRST's is its order's effect, taken as any console order is. -/
theorem exec_orderCommand (now : Tick) (src tag : Byte) (body : List Byte) (s : State) {code : Byte} {order : OrderCode}
    (known : orderOfNumber code.toNat = some order) (other : order ≠ .trst) : ∃ effect,
      exec (orderCommand now src code tag body) s =
        .next (consoleOrder src order tag body effect (advanceTo now s)) := by
  unfold orderCommand
  rw [known]
  cases order with
  | trst => exact absurd rfl other
  | tload =>
    dsimp only
    split <;> exact ⟨_, rfl⟩
  | tctl =>
    dsimp only
    unfold tctlCommand
    split <;> exact ⟨_, rfl⟩
  | _ => exact ⟨_, rfl⟩

theorem exec_orderCommand_trst (now : Tick) (src tag : Byte) (body : List Byte) (s : State) {code : Byte}
    (known : orderOfNumber code.toNat = some .trst) :
    exec (orderCommand now src code tag body) s = .next (consoleTrst src tag body (advanceTo now s)) := by
  unfold orderCommand
  rw [known]
  rfl

theorem exec_orderCommand_unknown (now : Tick) (src tag : Byte) (body : List Byte) (s : State) {code : Byte}
    (unknown : orderOfNumber code.toNat = none) :
    exec (orderCommand now src code tag body) s = .next (unknownOrder src tag code (advanceTo now s)) := by
  unfold orderCommand
  rw [unknown]
  rfl

theorem orderNumber_of {n : Nat} {order : OrderCode} (known : orderOfNumber n = some order) : orderNumber order = n := by
  unfold orderOfNumber at known
  split at known <;> cases known <;> rfl

theorem gate_trst_passed {n : Nat} {s : State} (passed : gate .console .trst n s = .passed) :
    Serving s ∧ n = 0 ∧ s.orders.owner = .console := by
  unfold gate at passed
  split at passed
  · exact nomatch passed
  · next ready =>
    split at passed
    · exact nomatch passed
    · next suits =>
      rw [if_neg (by exact nofun)] at passed
      split at passed
      · exact nomatch passed
      · next owned =>
        refine ⟨?_, by simpa [lengthSuits] using suits, ?_⟩
        · cases load : s.loader.load <;> simp [notReady, load] at ready
          exact ⟨load, ready⟩
        · cases owner : s.orders.owner with
          | console => rfl
          | panel => exact absurd ⟨rfl, by rw [owner]; exact nofun⟩ owned

/-- A TRST that finds no place is not taken when one of tests 2 to 6 would answer it (R139). -/
theorem trstUnplaced_answered {src tag : Byte} {body : List Byte} {s : State}
    (answered : ¬ Serving s ∨ body ≠ [] ∨ s.orders.owner = .panel) :
    trstUnplaced src tag body s = refuseUnplaced src s := by
  have gated : gate .console .trst body.length s ≠ .passed := by
    intro passed
    obtain ⟨serving, suits, owner⟩ := gate_trst_passed passed
    rcases answered with idle | long | panel
    · exact idle serving
    · exact long (List.eq_nil_of_length_eq_zero suits)
    · rw [owner] at panel
      exact nomatch panel
  unfold trstUnplaced
  split
  · next passed => exact absurd passed gated
  · rfl

/-- Settles O30: whatever the code, an order that finds no place is `refuseUnplaced`. -/
theorem orderWithoutPlaceIsNotTaken : Obligations.OrderWithoutPlaceIsNotTaken := by
  intro now src code tag body s unplaced trst
  have refused : exec (orderCommand now src code tag body) s = .next (refuseUnplaced src (advanceTo now s)) := by
    cases known : orderOfNumber code.toNat with
    | none =>
      rw [exec_orderCommand_unknown now src tag body s known]
      have none : reservePlace (advanceTo now s) = none := by simp [reservePlace, advanceTo, unplaced]
      rw [unknownOrder, none]
    | some order =>
      by_cases isTrst : order = .trst
      · subst isTrst
        have code26 : code = 26 := BitVec.eq_of_toNat_eq (orderNumber_of known).symm
        have none : reservePlace (advanceTo now s) = none := by simp [reservePlace, advanceTo, unplaced]
        rw [exec_orderCommand_trst now src tag body s known, consoleTrst, none]
        exact congrArg Host.Outcome.next (trstUnplaced_answered (s := advanceTo now s) (trst code26))
      · obtain ⟨effect, is⟩ := exec_orderCommand now src tag body s known isTrst
        rw [is, consoleOrder_unplaced (s := advanceTo now s) unplaced]
  refine ⟨_, refused, refuseUnplaced_onlyAnnounces _ _, refuseUnplaced_board (s := advanceTo now s) unplaced src,
    raise_sets _ _, fun overrun tallyOverflow => ?_⟩
  rw [refuseUnplaced_set (s := advanceTo now s) overrun tallyOverflow]
  rfl

end Sys2Proof.Machine
end
section
/-! The answer of a polled station: what every good answer leaves, the orders of the panel, misses, and the node query. -/

namespace Sys2Proof.Machine

/-! ### Looking up entries -/

/-- The first index with a property, in index order. -/
theorem find_finRange {n : Nat} {p : Fin n → Bool} {i : Fin n} :
    (List.finRange n).find? p = some i ↔ p i = true ∧ ∀ j, j < i → p j = false := by
  rw [List.find?_eq_some_iff_getElem]
  constructor
  · rintro ⟨holds, k, within, here, before⟩
    have at' : i.val = k := by rw [← here]; simp
    refine ⟨holds, fun j less => ?_⟩
    have := before j.val (by omega)
    simpa using this
  · rintro ⟨holds, before⟩
    refine ⟨holds, i.val, by simp, by simp, fun j less => ?_⟩
    have := before ⟨j, by omega⟩ less
    simpa using this

/-- Is the entry at an index loaded with a kind? -/
def holdsKind (nodes : NodeTable) (kind : NodeKind) (i : Fin 64) : Bool := nodes[i].any fun n => n.entry.kind == kind

theorem firstOfKind_eq (nodes : NodeTable) (kind : NodeKind) :
    firstOfKind nodes kind = nodeIndices.find? (holdsKind nodes kind) := by
  unfold firstOfKind holdsKind
  congr 1
  funext i
  cases nodes[i] <;> rfl

theorem firstOfKind_some {s : State} {kind : NodeKind} {i : Fin 64} :
    firstOfKind s.nodes kind = some i ↔ IsFirst s kind i := by
  have holds (j : Fin 64) : holdsKind s.nodes kind j = true ↔ ∃ n, s.nodes[j] = some n ∧ n.entry.kind = kind := by
    unfold holdsKind
    cases s.nodes[j] <;> simp
  rw [firstOfKind_eq, nodeIndices, find_finRange]
  refine and_congr (holds i) (forall_congr' fun j => ?_)
  rw [← Bool.not_eq_true, holds]
  constructor
  · intro none m less here is
    exact none less ⟨m, here, is⟩
  · rintro none less ⟨m, here, is⟩
    exact none m less here is

/-- The entries of a table with one written. -/
theorem set_entry {α : Type} {n : Nat} (table : Vector α n) (i j : Fin n) (x : α) :
    (table.set i x)[j] = if j = i then x else table[j] := by
  simp only [Fin.getElem_fin, Vector.getElem_set, Fin.ext_iff, eq_comm]

theorem isPanel_iff {s : State} {i : Fin 64} {n : Node} (law : NodeLaw s) (here : s.nodes[i] = some n) :
    isPanel s.nodes n.entry.station = true ↔ IsFirst s .panel i := by
  unfold isPanel
  constructor
  · intro panel
    cases first : firstOfKind s.nodes .panel with
    | none => rw [first] at panel; exact nomatch panel
    | some j =>
      rw [first] at panel
      simp only [holdsStation] at panel
      cases there : s.nodes[j] with
      | none => rw [there] at panel; exact nomatch panel
      | some m =>
        rw [there] at panel
        obtain rfl := law.2.1 j i m n there here (by simpa using panel)
        exact firstOfKind_some.mp first
  · intro first
    rw [firstOfKind_some.mpr first]
    simp only [holdsStation]
    rw [here]
    simp

theorem stationLane_here {s : State} {i : Fin 64} {n : Node} (law : NodeLaw s) (here : s.nodes[i] = some n) :
    stationLane s.nodes n.entry.station = n.entry.lane := by
  simp only [stationLane, findNode_here law here]
  rw [here]
  rfl

theorem stationPresence_here {s : State} {i : Fin 64} {n : Node} (law : NodeLaw s) (here : s.nodes[i] = some n) :
    stationPresence s.nodes n.entry.station = some n.run.presence := by
  simp only [stationPresence, findNode_here law here]
  rw [here]
  rfl

/-! ### NODE_LOST -/

theorem nodeLost_iff {nodes : NodeTable} : nodeLost nodes = true ↔
    ∃ (i : Fin 64) (n : Node), nodes[i] = some n ∧ n.run.presence = .absent := by
  have lost (i : Fin 64) : isAbsent nodes[i] = true ↔ ∃ n, nodes[i] = some n ∧ n.run.presence = .absent := by
    cases nodes[i] <;> simp [isAbsent]
  unfold nodeLost
  rw [Vector.any_toList, Vector.any_eq_true, ← exists_congr lost]
  exact (Fin.exists_iff (p := fun i : Fin 64 => isAbsent nodes[i] = true)).symm

/-- A change of one entry that leaves it as absent or as present as it was leaves NODE_LOST's condition. -/
theorem nodeLost_set {nodes : NodeTable} {i : Fin 64} {n m : Node} (here : nodes[i] = some n)
    (same : m.run.presence = .absent ↔ n.run.presence = .absent) :
    nodeLost (nodes.set i (some m)) = nodeLost nodes := by
  rw [Bool.eq_iff_iff, nodeLost_iff, nodeLost_iff]
  refine exists_congr fun j => ?_
  rw [set_entry]
  split
  · next at' =>
    subst at'
    rw [here]
    simp [same]
  · rfl

theorem setNodesReporting_same {nodes : NodeTable} {s : State} (same : nodeLost s.nodes = nodeLost nodes) :
    setNodesReporting nodes s = s.setNodes nodes := by
  simp [setNodesReporting, same]

/-! ### The answer awaited -/

theorem exec_deckAnswer {now : Tick} {bytes : List Byte} {s : State} {station : Byte} {window : Timer}
    (awaited : s.deck.phase = .awaiting station window) : exec (.deckAnswer now bytes) s =
      .next (endExchange (takeAnswer station bytes (advanceTo now s))) := by
  have advanced : (advanceTo now s).deck.phase =
      .awaiting station (runTimer (now - s.clock.tick).toNat window) := by
    simp only [advanceTo, awaited, runPhase]
  change Host.Outcome.next _ = _
  rw [advanced]

/-- A good telegram that is awaited is taken for what it carries. -/
theorem exec_deckAnswer_good {now : Tick} {bytes : List Byte} {s : State} {station : Byte} {window : Timer} {t : Telegram}
    (awaited : s.deck.phase = .awaiting station window) (good : receive bytes = .good t) :
    exec (.deckAnswer now bytes) s = .next (endExchange (takeContent station
      (answerContent s.settings.station station (isPanel s.nodes station) t) (advanceTo now s))) := by
  rw [exec_deckAnswer awaited, takeAnswer, good]
  rfl

theorem OnlyAnnounces.endExchange {s t : State} (h : OnlyAnnounces s t) :
    OnlyAnnounces (Machine.endExchange s) (Machine.endExchange t) := by
  obtain ⟨clock, nodes, filters, deck, banks, heat, lanes, results, lamps, settings, loader, pending, line, busy, orders,
    notices, counters, mode⟩ := h
  exact ⟨clock, nodes, filters, by simp only [Machine.endExchange, State.setDeck_deck, deck], banks, heat, lanes, results,
    lamps, settings, loader, pending, line, busy, orders, notices, counters, mode⟩

/-! ### A good answer (R10, R11) -/

/-- The state when a good answer of the station at `i` has made it PRESENT, its exchange not ended yet. -/
def present (now : Tick) (s : State) (i : Fin 64) (n : Node) : State :=
  (advanceTo now s).setNodes (s.nodes.set i (some { n with run := runtimeAfterAnswer n.run }))

theorem endExchange_present (now : Tick) (s : State) (i : Fin 64) (n : Node) :
    endExchange (present now s i n) = heard now s i n := rfl

/-- A station that was not ABSENT is made PRESENT, and no notice rises or clears. -/
theorem notePresent_here {now : Tick} {s : State} {i : Fin 64} {n : Node} (law : NodeLaw s) (here : s.nodes[i] = some n)
    (here' : n.run.presence ≠ .absent) : notePresent n.entry.station (advanceTo now s) = present now s i n := by
  have presence : ¬ stationPresence (advanceTo now s).nodes n.entry.station = some .absent := by
    rw [show (advanceTo now s).nodes = s.nodes from rfl, stationPresence_here law here]
    exact fun is => here' (Option.some.inj is)
  have changed : changeRuntime (advanceTo now s).nodes n.entry.station runtimeAfterAnswer =
      s.nodes.set i (some { n with run := runtimeAfterAnswer n.run }) := changeRuntime_here law here _
  unfold notePresent
  dsimp only
  rw [if_neg presence, changed]
  refine setNodesReporting_same (nodeLost_set (n := n) here ?_).symm
  exact ⟨nofun, fun is => absurd is here'⟩

/-! ### Orders of the panel (R9, R19) -/

theorem offerDeck_response {t : Telegram} {s : State} (none : ∀ e ∈ s.deck.queue, e.origin ≠ .response) :
    offerDeck ⟨.response, t⟩ s = s.setDeck { s.deck with queue := s.deck.queue ++ [⟨.response, t⟩] } := by
  have quiet : (s.deck.queue.any fun q => q.origin == .response) = false := by
    rw [List.any_eq_false]
    exact fun e mem => by simpa using none e mem
  simp [offerDeck, insertDeck, quiet]

/-- An order of the panel as decided, its RESPONSE at the tail of the deck command queue. -/
theorem exec_panelOrder {now : Tick} {s t : State} {bytes : List Byte} {i : Fin 64} {n : Node} {code tag : Byte}
    {body : List Byte} {a : Answer} (sends : PanelSends s bytes i n code tag body)
    (decided : decidePanel code body (present now s i n) = (t, a)) (deck : t.deck.queue = s.deck.queue) :
    exec (.deckAnswer now bytes) s = .next (panelAnswered (endExchange t) n (responsePayload code.toNat tag a)) := by
  obtain ⟨here, first, isPresent, ⟨window, awaited⟩, ⟨x, y, received⟩, unanswered, law⟩ := sends
  have panel : isPanel s.nodes n.entry.station = true := (isPanel_iff law here).mpr first
  have content : answerContent s.settings.station n.entry.station (isPanel s.nodes n.entry.station)
      ⟨s.settings.station, n.entry.station, kindOrder, [code, tag, x, y] ++ body⟩ = .order code tag body := by
    rw [panel]
    simp [answerContent, kindOrder, kindReport, kindAnswer]
  have noted := notePresent_here (now := now) law here (by rw [isPresent]; exact nofun)
  rw [exec_deckAnswer_good awaited received, content, takeContent, noted, panelOrder, decided,
    offerDeck_response (by rw [deck]; exact unanswered)]
  rfl

/-! ### Tests 2 to 6 of an order (R150) -/

theorem notReady_iff {s : State} {relh : Bool} : notReady s relh = true ↔
    s.loader.load = .loading ∨ (s.loader.hold = true ∧ relh = false) := by
  simp [notReady]

theorem gate_notReady {side : Side} {code : OrderCode} {n : Nat} {s : State}
    (idle : s.loader.load = .loading ∨ (s.loader.hold = true ∧ code ≠ .relh)) :
    gate side code n s = .answered (plain .notReady) :=
  if_pos (notReady_iff.mpr (by simpa using idle))

/-- Orders of this code are past test 2: the load is DONE, and HOLD is over unless the code is RELH's. -/
def Taken (s : State) (code : OrderCode) : Prop := s.loader.load = .done ∧ (s.loader.hold = true → code = .relh)

theorem Taken.of_serving {s : State} (serving : Serving s) (code : OrderCode) : Taken s code :=
  ⟨serving.1, fun hold => absurd hold (by simp [serving.2])⟩

theorem gate_ready {side : Side} {code : OrderCode} {n : Nat} {s : State} (taken : Taken s code) :
    gate side code n s = if ¬ lengthSuits code n then .answered (refuse 14)
      else if side = .panel ∧ consoleOnly code then .answered (refuse 15)
      else if needsChannel code ∧ s.orders.owner ≠ side then .retry else .passed := by
  refine if_neg fun idle => ?_
  rcases notReady_iff.mp idle with loading | ⟨hold, other⟩
  · rw [taken.1] at loading
    exact nomatch loading
  · rw [taken.2 hold] at other
    exact nomatch other

theorem gate_length {side : Side} {code : OrderCode} {n : Nat} {s : State} (taken : Taken s code)
    (other : lengthSuits code n = false) : gate side code n s = .answered (refuse 14) := by
  rw [gate_ready taken, if_pos (by simp [other])]

theorem gate_consoleOnly {code : OrderCode} {n : Nat} {s : State} (taken : Taken s code)
    (suits : lengthSuits code n = true) (only : consoleOnly code = true) :
    gate .panel code n s = .answered (refuse 15) := by
  rw [gate_ready taken, if_neg (by simp [suits]), if_pos ⟨rfl, only⟩]

theorem consoleOnly_of_needsChannel {code : OrderCode} (needs : needsChannel code = true) : consoleOnly code = false := by
  cases code <;> first | rfl | exact nomatch needs

theorem gate_channel {side : Side} {code : OrderCode} {n : Nat} {s : State} (taken : Taken s code)
    (suits : lengthSuits code n = true) (needs : needsChannel code = true) :
    gate side code n s = if s.orders.owner = side then .passed else .retry := by
  rw [gate_ready taken, if_neg (by simp [suits]), if_neg (by simp [consoleOnly_of_needsChannel needs])]
  by_cases own : s.orders.owner = side <;> simp [needs, own]

theorem orderOfNumber_orderNumber (code : OrderCode) : orderOfNumber (byteOf (orderNumber code)).toNat = some code := by
  cases code <;> rfl

theorem byteOf_toNat_self (b : Byte) : byteOf b.toNat = b := by
  simp [byteOf]

theorem decidePanel_known {code : Byte} {order : OrderCode} (known : orderOfNumber code.toNat = some order)
    (body : List Byte) (s : State) : decidePanel code body s =
      decideOrder .panel order body (orderEffect .panel order body) s := by
  simp only [decidePanel, known]

theorem decidePanel_unknown {code : Byte} (unknown : orderOfNumber code.toNat = none)
    (body : List Byte) (s : State) : decidePanel code body s = (s, decideUnknown s) := by
  simp only [decidePanel, unknown]

theorem decideOrder_answered {side : Side} {code : OrderCode} {body : List Byte} {effect : State → State × Answer}
    {s : State} {a : Answer} (gated : gate side code body.length s = .answered a) :
    decideOrder side code body effect s = (s, a) := by
  simp only [decideOrder, gated]

theorem decideOrder_retry {side : Side} {code : OrderCode} {body : List Byte} {effect : State → State × Answer}
    {s : State} (gated : gate side code body.length s = .retry) :
    decideOrder side code body effect s = (registerClaim s, plain .retry) := by
  simp only [decideOrder, gated]

theorem decideOrder_passed {side : Side} {code : OrderCode} {body : List Byte} {effect : State → State × Answer}
    {s : State} (gated : gate side code body.length s = .passed) :
    decideOrder side code body effect s = effect (noteOrder code s) := by
  simp only [decideOrder, gated]

/-- With a place made every row of a known code is its order's effect, TRST's too. -/
theorem exec_orderCommand_placed {now : Tick} {src tag : Byte} {body : List Byte} {s : State} {room : List Telegram}
    (place : PlaceMade s room) {code : Byte} {order : OrderCode} (known : orderOfNumber code.toNat = some order) :
    ∃ effect, exec (orderCommand now src code tag body) s =
      .next (consoleOrder src order tag body effect (advanceTo now s)) := by
  by_cases isTrst : order = .trst
  · subst isTrst
    have reserved : reservePlace (advanceTo now s) =
        some ((advanceTo now s).setBoard { (advanceTo now s).board with queue := room, reserved := true }) := by
      have place' : makeRoom (advanceTo now s).board.reserved (advanceTo now s).board.queue = some room := place
      rw [reservePlace, place']
      rfl
    refine ⟨orderTrst, ?_⟩
    rw [exec_orderCommand_trst now src tag body s known, consoleTrst, reserved]
  · exact exec_orderCommand now src tag body s known isTrst

theorem unknownOrder_placed {src tag code : Byte} {s : State} {room : List Telegram} (place : PlaceMade s room) :
    unknownOrder src tag code s = answered s room ⟨src, s.settings.station, kindResponse,
      [code, tag, byteOf (statusNumber (decideUnknown s).status), byteOf (decideUnknown s).reason]
        ++ (decideUnknown s).body⟩ := by
  have place' : makeRoom s.board.reserved s.board.queue = some room := place
  rw [unknownOrder, reservePlace, place']
  simp only [respondConsole, responseTelegram, responsePayload, byteOf_toNat_self]
  rfl

theorem decideUnknown_idle {s : State} (idle : ¬ Serving s) : decideUnknown s = plain .notReady := by
  refine if_pos (notReady_iff.mpr ?_)
  cases load : s.loader.load with
  | loading => exact .inl rfl
  | done => exact .inr ⟨by simpa [Serving, load] using idle, rfl⟩

theorem decideUnknown_serving {s : State} (serving : Serving s) : decideUnknown s = refuse 13 := by
  refine if_neg fun idle => ?_
  rcases notReady_iff.mp idle with loading | ⟨hold, _⟩
  · exact nomatch loading.symm.trans serving.1
  · exact nomatch hold.symm.trans serving.2

/-- Settles O29: each of the tests is a case of `gate`, and an order answered there leaves the state as it found it. -/
theorem earlyTestsAnswerOrders : Obligations.EarlyTestsAnswerOrders := by
  refine ⟨fun now src tag body s room place => ⟨fun code => ?_, fun code unknown => ?_⟩,
    fun now bytes s i n code tag body sends => ?_⟩
  · obtain ⟨effect, is⟩ := exec_orderCommand_placed (now := now) (src := src) (tag := tag) (body := body) place
      (orderOfNumber_orderNumber code)
    refine ⟨fun idle => ?_, fun done hold other => ?_⟩
    · rw [is, consoleOrder_answered (s := advanceTo now s) place (gate_notReady idle)]
      rfl
    · rw [is, consoleOrder_answered (s := advanceTo now s) place (gate_length ⟨done, hold⟩ other)]
      rfl
  · have unknown' (answer : Answer) (is : decideUnknown (advanceTo now s) = answer) :
        exec (.orderUnknownCode now src tag code body) s = .next (answered (advanceTo now s) room
          ⟨src, s.settings.station, kindResponse,
            [code, tag, byteOf (statusNumber answer.status), byteOf answer.reason] ++ answer.body⟩) := by
      rw [← is]
      exact congrArg Host.Outcome.next (unknownOrder_placed (s := advanceTo now s) place)
    refine ⟨by rw [orderCommand, unknown], fun idle => unknown' _ (decideUnknown_idle idle),
      fun serving => unknown' _ (decideUnknown_serving serving)⟩
  · have replied {status : Status} {reason : Nat} (decided : decidePanel code body (present now s i n) =
        (present now s i n, ⟨status, reason, []⟩)) : exec (.deckAnswer now bytes) s =
          .next (panelAnswered (heard now s i n) n [code, tag, byteOf (statusNumber status), byteOf reason]) := by
      rw [exec_panelOrder sends decided rfl, endExchange_present, responsePayload, byteOf_toNat_self]
      rfl
    refine ⟨fun idle => ?_, fun serving unknown => ?_, fun order is done hold => ?_⟩
    · cases known : orderOfNumber code.toNat with
      | none =>
        refine replied ((decidePanel_unknown known body _).trans (congrArg (Prod.mk _) (decideUnknown_idle ?_)))
        rintro ⟨done, noHold⟩
        rcases idle with loading | ⟨hold, _⟩
        · exact nomatch loading.symm.trans done
        · exact nomatch hold.symm.trans noHold
      | some order =>
        refine replied ((decidePanel_known known body _).trans (decideOrder_answered (gate_notReady ?_)))
        refine idle.imp id (And.imp_right fun other isRelh => other ?_)
        subst isRelh
        exact BitVec.eq_of_toNat_eq (orderNumber_of known).symm
    · exact replied ((decidePanel_unknown unknown body _).trans (congrArg (Prod.mk _) (decideUnknown_serving serving)))
    · have known : orderOfNumber code.toNat = some order := is ▸ orderOfNumber_orderNumber order
      have taken : Taken (present now s i n) order := ⟨done, hold⟩
      refine ⟨fun other => ?_, fun suits only => ?_⟩
      · exact replied ((decidePanel_known known body _).trans (decideOrder_answered (gate_length taken other)))
      · refine replied ((decidePanel_known known body _).trans (decideOrder_answered (gate_consoleOnly taken suits ?_)))
        rcases only with rfl | rfl <;> rfl

/-! ### The timers of the channel (R153, R154, R156) -/

theorem startHandover_eq (s : State) : startHandover s = s.setOrders { s.orders with
    handover := if s.orders.claim ≠ none ∧ s.orders.chain = none then some (freshTimer s.now 50000)
      else s.orders.handover } := by
  have condition : (s.orders.claim.isSome = true ∧ s.orders.chain.isNone = true) ↔
      (s.orders.claim ≠ none ∧ s.orders.chain = none) := by
    rw [Option.isSome_iff_ne_none, Option.isNone_iff_eq_none]
  unfold startHandover
  by_cases starts : s.orders.claim ≠ none ∧ s.orders.chain = none
  · rw [if_pos (condition.mpr starts), if_pos starts, startTimer_now]
    rfl
  · rw [if_neg (mt condition.mp starts), if_neg starts]
    rfl

theorem startHome_eq (s : State) : startHome s = s.setOrders { s.orders with
    home := if s.settings.mode = .home ∧ s.orders.owner = .panel ∧ s.orders.chain = none then
        some (freshTimer s.now 2000000)
      else s.orders.home } := by
  have condition : (s.settings.mode = .home ∧ s.orders.owner = .panel ∧ s.orders.chain.isNone = true) ↔
      (s.settings.mode = .home ∧ s.orders.owner = .panel ∧ s.orders.chain = none) := by
    rw [Option.isNone_iff_eq_none]
  unfold startHome
  by_cases starts : s.settings.mode = .home ∧ s.orders.owner = .panel ∧ s.orders.chain = none
  · rw [if_pos (condition.mpr starts), if_pos starts, startTimer_now]
    rfl
  · rw [if_neg (mt condition.mp starts), if_neg starts]
    rfl

theorem registerClaim_eq (s : State) : registerClaim s = s.setOrders { s.orders with
    claim := some (freshTimer s.now 1000000)
    handover := if s.orders.claim = none ∧ s.orders.chain = none then some (freshTimer s.now 50000)
      else s.orders.handover } := by
  unfold registerClaim
  rw [startTimer_now]
  dsimp only
  rw [startHandover_eq]
  cases claim : s.orders.claim <;> simp <;> rfl

/-- An owner's order starts the handover timer while a claim is live and the home timer while PANEL owns the channel in HOME
mode, where no load chain is open. -/
theorem noteOwnerOrder_timers (s : State) : noteOwnerOrder s = s.setOrders { s.orders with
    handover := if s.orders.claim ≠ none ∧ s.orders.chain = none then some (freshTimer s.now 50000)
      else s.orders.handover
    home := if s.settings.mode = .home ∧ s.orders.owner = .panel ∧ s.orders.chain = none then
        some (freshTimer s.now 2000000)
      else s.orders.home } := by
  rw [noteOwnerOrder, startHandover_eq, startHome_eq]
  rfl

theorem advanceTo_claim_none {now : Tick} {s : State} : (advanceTo now s).orders.claim = none ↔ s.orders.claim = none :=
  Option.map_eq_none_iff

theorem advanceTo_chain_none {now : Tick} {s : State} : (advanceTo now s).orders.chain = none ↔ s.orders.chain = none :=
  Option.map_eq_none_iff

/-- Settles O31: test 6 answers RETRY and registers the claim, whichever side sends; the panel as owner passes it. -/
theorem nonOwnerRegistersClaim : Obligations.NonOwnerRegistersClaim := by
  refine ⟨fun now src tag code body s room serving owner needs suits place => ?_,
    fun now bytes s i n order tag body sends serving needs suits => ⟨fun owner => ?_, fun owner endh idle => ?_⟩⟩
  · have other : s.orders.owner ≠ .console := by rw [owner]; exact nofun
    obtain ⟨effect, is⟩ := exec_orderCommand_placed (now := now) (src := src) (tag := tag) (body := body) place
      (orderOfNumber_orderNumber code)
    have gated : gate .console code body.length (advanceTo now s) = .retry :=
      (gate_channel (.of_serving serving code) suits needs).trans
        (if_neg other)
    rw [is, consoleOrder_retry (s := advanceTo now s) place gated, registerClaim_eq]
    simp only [State.setBoard_orders, advanceTo_claim_none, advanceTo_chain_none]
    rfl
  · have other : s.orders.owner ≠ .panel := by rw [owner]; exact nofun
    have gated : gate .panel order body.length (present now s i n) = .retry :=
      (gate_channel (.of_serving serving order) suits needs).trans
        (if_neg other)
    have decided := (decidePanel_known (orderOfNumber_orderNumber order) body _).trans (decideOrder_retry gated)
    rw [registerClaim_eq] at decided
    rw [exec_panelOrder sends decided rfl]
    simp only [present, State.setNodes_orders, advanceTo_claim_none, advanceTo_chain_none]
    rw [responsePayload, byteOf_toNat_self]
    rfl
  · subst endh
    have gated : gate .panel .endh body.length (present now s i n) = .passed :=
      (gate_channel (.of_serving serving .endh) suits needs).trans (if_pos owner)
    have busy (s : State) (idle : s.heat.state = .idle) : orderEndh s = (s, plain .busy) := by
      simp only [orderEndh, idle]
    have decided : decidePanel (byteOf (orderNumber .endh)) body (present now s i n) = _ :=
      (decidePanel_known (orderOfNumber_orderNumber .endh) body _).trans ((decideOrder_passed gated).trans
        (busy (noteOwnerOrder (present now s i n)) (by rw [noteOwnerOrder_timers]; exact idle)))
    have home : (advanceTo now s).settings.mode = .home ∧ (advanceTo now s).orders.owner = .panel
        ∧ s.orders.chain = none ↔ s.settings.mode = .home ∧ s.orders.chain = none :=
      ⟨fun ⟨mode, _, closed⟩ => ⟨mode, closed⟩, fun ⟨mode, closed⟩ => ⟨mode, owner, closed⟩⟩
    rw [noteOwnerOrder_timers] at decided
    rw [exec_panelOrder sends decided rfl]
    simp only [present, State.setNodes_orders, State.setNodes_settings, ne_eq, advanceTo_claim_none, advanceTo_chain_none,
      home]
    rfl

end Sys2Proof.Machine
end
section
/-! The orders that need no channel: mailboxes, notices, the node query, RELH and CREL. -/

namespace Sys2Proof.Machine

/-! ### Mailboxes (R164) -/

theorem mailboxOf_above {b : Byte} (above : 3 < b.toNat) : mailboxOf b = none := dif_neg (Nat.not_lt.mpr above)

theorem mailboxOf_byteOf (m : Fin 4) : mailboxOf (byteOf m.val) = some m := by
  have value := byteOf_toNat (n := m.val) (by omega)
  simp [mailboxOf, value]

/-- The state with the eight bytes of a mailbox replaced. -/
def mailed (m : Fin 4) (data : Vector Byte 8) (s : State) : State :=
  s.setOrders { s.orders with mailboxes := s.orders.mailboxes.set m data }

theorem orderMailr_above {b : Byte} (above : 3 < b.toNat) (s : State) : orderMailr [b] s = (s, refuse 1) := by
  simp [orderMailr, byteAt, mailboxOf_above above]

theorem orderMailr_here (m : Fin 4) (s : State) :
    orderMailr [byteOf m.val] s = (s, ⟨.ok, 0, s.orders.mailboxes[m].toList⟩) := by
  simp [orderMailr, byteAt, mailboxOf_byteOf]

theorem orderMailw_above {side : Side} {b : Byte} (above : 3 < b.toNat) (data : List Byte) (s : State) :
    orderMailw side (b :: data) s = (s, refuse 1) := by
  simp [orderMailw, byteAt, mailboxOf_above above]

theorem orderMailw_here (side : Side) (m : Fin 4) (data : Vector Byte 8) (s : State) :
    orderMailw side (byteOf m.val :: data.toList) s =
      (if side = mailSource s m ∧ (s.notice .mailbox).direction = directionOf (otherSide side) then
        raise .mailbox (mailed m data s) else mailed m data s, plain .ok) := by
  have bytes : (Vector.ofFn fun k : Fin 8 => byteAt (byteOf m.val :: data.toList) (k.val + 1)) = data := by
    apply Vector.ext
    intro k h
    simp [byteAt]
  have box : mailboxOf (byteAt (byteOf m.val :: data.toList) 0) = some m := mailboxOf_byteOf m
  simp only [orderMailw, box, bytes, mailed]
  split <;> rfl

theorem placesFree_one {n : Nat} {s : State} (free : PlacesFree (n + 1) s) :
    placesTaken s.board.reserved s.board.queue < 32 := by
  obtain ⟨noPlace, room⟩ := free
  have room' : s.board.queue.length + (n + 1) ≤ 32 := room
  simp only [placesTaken, noPlace]
  show s.board.queue.length + 0 < 32
  omega

/-- A notice raised where no NOTICE is sent is a status set. -/
theorem raise_silent {k : NoticeKind} {s : State}
    (quiet : ¬ ((s.notice k).enabled = true ∧ (s.notice k).direction = .board)) : raise k s = setStatus k true s := by
  rw [raise_quiet quiet]
  split
  · next set => rw [← set, setStatus_same]
  · rfl

theorem mailSource_console {s : State} {m : Fin 4} : Side.console = mailSource s m ↔ s.settings.toConsole[m] = false := by
  unfold mailSource
  cases s.settings.toConsole[m] <;> simp

theorem mailSource_panel {s : State} {m : Fin 4} : Side.panel = mailSource s m ↔ s.settings.toConsole[m] = true := by
  unfold mailSource
  cases s.settings.toConsole[m] <;> simp

/-- A mailbox written by its source side, with the notice directed to the reading side, is announced. -/
theorem orderMailw_raises {side : Side} {m : Fin 4} {data : Vector Byte 8} {s : State} (source : side = mailSource s m)
    (reaches : (s.notice .mailbox).direction = directionOf (otherSide side)) :
    orderMailw side (byteOf m.val :: data.toList) s = (raise .mailbox (mailed m data s), plain .ok) := by
  rw [orderMailw_here, if_pos ⟨source, reaches⟩]

theorem orderMailw_silent {side : Side} {m : Fin 4} {data : Vector Byte 8} {s : State}
    (not : ¬ (side = mailSource s m ∧ (s.notice .mailbox).direction = directionOf (otherSide side))) :
    orderMailw side (byteOf m.val :: data.toList) s = (mailed m data s, plain .ok) := by
  rw [orderMailw_here, if_neg not]

/-- The panel's MAILR or MAILW while the module serves orders goes on to its own effect. -/
theorem decidePanel_open {order : OrderCode} {body : List Byte} {s : State} (serving : Serving s)
    (suits : lengthSuits order body.length = true) (free : needsChannel order = false) (both : consoleOnly order = false) :
    decidePanel (byteOf (orderNumber order)) body s = orderEffect .panel order body s := by
  rw [decidePanel_known (orderOfNumber_orderNumber order), decideOrder_passed, noteOrder, if_neg (by simp [free])]
  rw [gate_ready (.of_serving serving order), if_neg (by simp [suits]), if_neg (by simp [both])]
  exact if_neg (by simp [free])

/-- Settles O36: the effect of a write is told once for both sides; what differs is where its notice goes. -/
theorem mailboxesHoldTheirBytes : Obligations.MailboxesHoldTheirBytes := by
  refine ⟨fun now src tag box data s room serving place => ⟨fun above => ⟨?_, ?_⟩, fun m is => ⟨?_, fun toPanel => ?_,
    fun notToPanel => ?_⟩⟩, fun now bytes s i n tag m data serving => ⟨fun sends => ?_, fun sends free => ⟨fun toBoard => ?_,
    fun notToBoard => ?_⟩⟩⟩
  · exact congrArg Host.Outcome.next (consoleOrder_open_effect (a := refuse 1) serving place rfl rfl
      (fun b => orderMailr_above above _) rfl rfl)
  · exact congrArg Host.Outcome.next (consoleOrder_open_effect (a := refuse 1) serving place (by simp [lengthSuits]) rfl
      (fun b => orderMailw_above above _ _) rfl rfl)
  · subst is
    exact congrArg Host.Outcome.next (consoleOrder_open_effect (a := ⟨.ok, 0, s.orders.mailboxes[m].toList⟩) serving
      place rfl rfl (fun b => orderMailr_here m _) rfl rfl)
  · subst is
    have effect (b : BoardTransmitter) : orderMailw .console (byteOf m.val :: data.toList) ((advanceTo now s).setBoard b) =
        ((setStatus .mailbox true (mailed m data (advanceTo now s))).setBoard b, plain .ok) := by
      rw [orderMailw_raises (s := (advanceTo now s).setBoard b) (mailSource_console.mpr toPanel.1) toPanel.2, raise_silent]
      · rfl
      · rintro ⟨_, board⟩
        exact nomatch toPanel.2.symm.trans board
    exact congrArg Host.Outcome.next (consoleOrder_open_effect (a := plain .ok) serving place (by simp [lengthSuits]) rfl
      effect rfl rfl)
  · subst is
    have effect (b : BoardTransmitter) : orderMailw .console (byteOf m.val :: data.toList) ((advanceTo now s).setBoard b) =
        ((mailed m data (advanceTo now s)).setBoard b, plain .ok) :=
      orderMailw_silent fun ⟨source, reaches⟩ => notToPanel ⟨mailSource_console.mp source, reaches⟩
    exact congrArg Host.Outcome.next (consoleOrder_open_effect (a := plain .ok) serving place (by simp [lengthSuits]) rfl
      effect rfl rfl)
  · have decided := (decidePanel_open (s := present now s i n) (order := .mailr) (body := [byteOf m.val]) serving rfl rfl
      rfl).trans (orderMailr_here m _)
    rw [exec_panelOrder sends decided rfl]
    rfl
  · have decided := (decidePanel_open (s := present now s i n) (order := .mailw) (body := byteOf m.val :: data.toList)
      serving (by simp [lengthSuits]) rfl rfl).trans (orderMailw_raises (mailSource_panel.mpr toBoard.1) toBoard.2)
    have one : placesTaken s.board.reserved s.board.queue < 32 := placesFree_one free
    rw [raise_free (s := mailed m data (present now s i n)) one] at decided
    rw [exec_panelOrder sends decided rfl]
    rfl
  · have decided := (decidePanel_open (s := present now s i n) (order := .mailw) (body := byteOf m.val :: data.toList)
      serving (by simp [lengthSuits]) rfl rfl).trans
      (orderMailw_silent fun ⟨source, reaches⟩ => notToBoard ⟨mailSource_panel.mp source, reaches⟩)
    rw [exec_panelOrder sends decided rfl]
    rfl

/-! ### Notices (R166) -/

/-- A number of flags has the flags as its bits. -/
theorem flagNumber_testBit (flags : List Bool) (b : Nat) : (flagNumber flags).testBit b = flags.getD b false := by
  induction flags generalizing b with
  | nil => simp [flagNumber]
  | cons f rest ih =>
    cases b with
    | zero => cases f <;> simp [flagNumber, Nat.testBit_zero]
    | succ b =>
      have half : flagNumber (f :: rest) / 2 = flagNumber rest := by
        cases f with
        | false => simp [flagNumber]
        | true =>
          simp [flagNumber]
          omega
      rw [Nat.testBit_succ, half, ih, List.getD_cons_succ]

theorem be16_append (v : BitVec 16) : ∃ h l : Byte, be16 v = [h, l] ∧ ∀ b, b < 16 → (h ++ l).getLsbD b = v.getLsbD b := by
  refine ⟨_, _, rfl, fun b within => ?_⟩
  rw [BitVec.getLsbD_append]
  by_cases low : b < 8
  · simp [low]
  · simp [low, show b - 8 < 8 by omega, show 8 + (b - 8) = b by omega]

theorem number_two (high low : Byte) : BitVec.ofNat 16 (number [high, low]) = high ++ low := by
  apply BitVec.eq_of_toNat_eq
  have := high.isLt
  have := low.isLt
  rw [BitVec.toNat_append, BitVec.toNat_ofNat, Nat.shiftLeft_eq, Nat.mul_comm, ← Nat.two_pow_add_eq_or_of_lt low.isLt]
  simp [number]
  omega

/-- The twelve statuses in two bytes, bit n - 1 for kind n. -/
theorem noticeStatuses_bits (s : State) : ∃ h l : Byte, noticeStatuses s = [h, l]
    ∧ ∀ b : Nat, b < 16 → (h ++ l).getLsbD b = if hb : b < 12 then s.orders.notices[b].status else false := by
  obtain ⟨h, l, bytes, joined⟩ := be16_append (BitVec.ofNat 16 (flagNumber (s.orders.notices.toList.map fun n => n.status)))
  refine ⟨h, l, bytes, fun b within => ?_⟩
  rw [joined b within, BitVec.getLsbD_ofNat, flagNumber_testBit]
  by_cases listed : b < 12 <;> simp [within, listed]

/-- The notices that an NCLR of a side leaves. -/
def noticesCleared (side : Side) (named : BitVec 16) (s : State) : Vector Notice 12 :=
  Vector.ofFn fun k : Fin 12 =>
    clearedNotice side (named.getLsbD k) (k == noticeIndex .nodeLost && nodeLost s.nodes) s.orders.notices[k]

theorem orderNclr_eq (side : Side) (high low : Byte) (s : State) : orderNclr side [high, low] s =
    (s.setOrders { s.orders with notices := noticesCleared side (high ++ low) s },
      ⟨.ok, 0, noticeStatuses (s.setOrders { s.orders with notices := noticesCleared side (high ++ low) s })⟩) := by
  have named : BitVec.ofNat 16 (field [high, low] 0 2) = high ++ low := number_two high low
  unfold orderNclr
  rw [named]
  rfl

theorem noticesCleared_entry (side : Side) (named : BitVec 16) (s : State) (k : Fin 12) :
    let clears := named.getLsbD k = true ∧ s.orders.notices[k].direction = directionOf side
      ∧ ¬ (k = 0 ∧ nodeLost s.nodes = true)
    (clears → (noticesCleared side named s)[k] = { s.orders.notices[k] with status := false })
      ∧ (¬ clears → (noticesCleared side named s)[k] = s.orders.notices[k]) := by
  intro clears
  have entry : (noticesCleared side named s)[k] =
      clearedNotice side (named.getLsbD k) (k == noticeIndex .nodeLost && nodeLost s.nodes) s.orders.notices[k] := by
    simp [noticesCleared]
  have condition : (named.getLsbD k && s.orders.notices[k].direction == directionOf side
      && !(k == noticeIndex .nodeLost && nodeLost s.nodes)) = true ↔ clears := by
    simp only [Bool.and_eq_true, beq_iff_eq, Bool.not_eq_true', and_assoc, clears, ← Bool.not_eq_true]
    rfl
  rw [entry, clearedNotice]
  exact ⟨fun holds => if_pos (condition.mpr holds), fun fails => if_neg (mt condition.mp fails)⟩

/-- Settles O37: the statuses are answered from the notices as the order leaves them. -/
theorem nclrClearsBoardNotices : Obligations.NclrClearsBoardNotices := by
  intro now src tag high low s room serving place u lost
  obtain ⟨h, l, bytes, bits⟩ := noticeStatuses_bits
    (u.setOrders { u.orders with notices := noticesCleared .console (high ++ low) u })
  refine ⟨noticesCleared .console (high ++ low) u, h, l, ?_, fun k => ?_, bits⟩
  · refine congrArg Host.Outcome.next (consoleOrder_open_effect (a := ⟨.ok, 0, [h, l]⟩) serving place rfl rfl
      (fun b => ?_) rfl rfl)
    rw [orderNclr_eq, ← bytes]
    rfl
  · have entry := noticesCleared_entry .console (high ++ low) u k
    rwa [nodeLost_iff] at entry

/-! ### The node query (R161, R163) -/

theorem orderNqry_unheld {station : Byte} {query : List Byte} {s : State}
    (unheld : ∀ (i : Fin 64) (n : Node), s.nodes[i] = some n → n.entry.station ≠ station) :
    orderNqry (station :: query) s = (s, refuse 1) := by
  have none : findNode s.nodes station = none := findNode_none.mpr unheld
  simp [orderNqry, byteAt, none]

theorem orderNqry_free {query : List Byte} {s : State} {i : Fin 64} {n : Node} (law : NodeLaw s)
    (here : s.nodes[i] = some n) (slot : s.orders.slot = .free) : orderNqry (n.entry.station :: query) s =
      if n.run.presence = .present then
        (offerDeck ⟨.query, queryTelegram s ⟨n.entry.station, query⟩⟩
          (s.setOrders { s.orders with slot := .waiting ⟨n.entry.station, query⟩ none }), plain .retry)
      else (s, ⟨.noResp, 0, [n.entry.station]⟩) := by
  simp [orderNqry, byteAt, findNode_here law here, slot, stationPresence_here law here]

/-- What an NQRY other than the slot's is answered (table 10-5). -/
def otherAnswer (n : Node) : Answer :=
  if n.run.presence = .present then plain .retry else ⟨.noResp, 0, [n.entry.station]⟩

theorem otherQuery_here {s : State} {i : Fin 64} {n : Node} (law : NodeLaw s) (here : s.nodes[i] = some n) :
    otherQuery s n.entry.station = otherAnswer n := by
  simp [otherQuery, stationPresence_here law here, otherAnswer]

theorem orderNqry_waiting {query : List Byte} {s : State} {i : Fin 64} {n : Node} (law : NodeLaw s)
    (here : s.nodes[i] = some n) {q : Query} {timer : Option Timer} (slot : s.orders.slot = .waiting q timer) :
    orderNqry (n.entry.station :: query) s =
      (s, if (⟨n.entry.station, query⟩ : Query) = q then plain .retry else otherAnswer n) := by
  simp [orderNqry, byteAt, findNode_here law here, slot, otherQuery_here law here]

theorem orderNqry_held {query : List Byte} {s : State} {i : Fin 64} {n : Node} (law : NodeLaw s)
    (here : s.nodes[i] = some n) {q : Query} {result : QueryResult} {timer : Timer}
    (slot : s.orders.slot = .held q result timer) : orderNqry (n.entry.station :: query) s =
      if (⟨n.entry.station, query⟩ : Query) = q then
        (s.setOrders { s.orders with slot := .free }, collected ⟨n.entry.station, query⟩ result)
      else (s, otherAnswer n) := by
  simp [orderNqry, byteAt, findNode_here law here, slot, otherQuery_here law here]

theorem offerDeck_query (t : Telegram) (s : State) :
    offerDeck ⟨.query, t⟩ s = s.setDeck { s.deck with queue := s.deck.queue ++ [⟨.query, t⟩] } := rfl

/-- Settles O38: the clauses are the rows of table 10-5. -/
theorem nodeQueryOrder : Obligations.NodeQueryOrder := by
  intro now src tag station query s room serving place short law u Answered
  have answer {t : State} {a : Answer} (does : ∀ b : BoardTransmitter,
      orderNqry (station :: query) (u.setBoard b) = (t.setBoard b, a)) (board : t.board = u.board)
      (own : t.settings.station = s.settings.station) : Answered t a.status a.reason a.body :=
    congrArg Host.Outcome.next (consoleOrder_open_effect serving place
      (by simp only [lengthSuits, List.length_cons]; simp; omega) rfl does board own)
  refine ⟨fun unheld => answer (a := refuse 1) (fun b => orderNqry_unheld unheld) rfl rfl, fun i n here is => ?_⟩
  subst is
  intro present
  have advanced {slot : QuerySlot} (slotIs : s.orders.slot = slot) :
      u.orders.slot = runSlot (now - s.clock.tick).toNat slot := congrArg (runSlot _) slotIs
  refine ⟨fun slot isPresent => ?_, fun slot isAway => ?_, fun timer slot => ?_, fun payload timer slot => ?_,
    fun timer slot => ?_, fun q other slot => ?_⟩
  · refine answer (a := plain .retry) (fun b => ?_) rfl rfl
    rw [orderNqry_free (s := u.setBoard b) law here (advanced slot), if_pos isPresent, offerDeck_query]
    rfl
  · refine answer (a := ⟨.noResp, 0, [n.entry.station]⟩) (fun b => ?_) rfl rfl
    rw [orderNqry_free (s := u.setBoard b) law here (advanced slot), if_neg isAway]
  · refine answer (a := plain .retry) (fun b => ?_) rfl rfl
    rw [orderNqry_waiting (s := u.setBoard b) law here (advanced slot), if_pos rfl]
  · have collects : collected ⟨n.entry.station, query⟩ (.answer payload) =
        ⟨if payload.length ≤ 43 then .ok else .trunc, 0, n.entry.station :: payload.take 43⟩ := by
      by_cases fits : payload.length ≤ 43
      · simp [collected, fits]
      · simp [collected, fits, Nat.lt_of_not_le fits]
    refine answer (a := ⟨if payload.length ≤ 43 then .ok else .trunc, 0, n.entry.station :: payload.take 43⟩)
      (fun b => ?_) rfl rfl
    rw [orderNqry_held (s := u.setBoard b) law here (advanced slot), if_pos rfl, collects]
    rfl
  · refine answer (a := ⟨.noResp, 0, [n.entry.station]⟩) (fun b => ?_) rfl rfl
    rw [orderNqry_held (s := u.setBoard b) law here (advanced slot), if_pos rfl]
    rfl
  · have answered : Answered u (otherAnswer n).status (otherAnswer n).reason (otherAnswer n).body := by
      refine answer (fun b => ?_) rfl rfl
      rcases slot with ⟨timer, slot⟩ | ⟨result, timer, slot⟩
      · rw [orderNqry_waiting (s := u.setBoard b) law here (advanced slot), if_neg (Ne.symm other)]
      · rw [orderNqry_held (s := u.setBoard b) law here (advanced slot), if_neg (Ne.symm other)]
    refine ⟨fun isPresent => ?_, fun isAway => ?_⟩
    · rwa [otherAnswer, if_pos isPresent] at answered
    · rwa [otherAnswer, if_neg isAway] at answered

/-! ### RELH and CREL (R155, R176) -/

/-- An order that needs no channel and is past test 2: its effect, told for every board queue, and its RESPONSE. -/
theorem consoleOrder_taken_effect {now : Tick} {src tag : Byte} {code : OrderCode} {body : List Byte}
    {effect : State → State × Answer} {s t : State} {room : List Telegram} {a : Answer} (taken : Taken s code)
    (place : PlaceMade s room) (suits : lengthSuits code body.length = true) (free : needsChannel code = false)
    (does : ∀ b : BoardTransmitter, effect ((advanceTo now s).setBoard b) = (t.setBoard b, a))
    (board : t.board = (advanceTo now s).board) (station : t.settings.station = s.settings.station) :
    consoleOrder src code tag body effect (advanceTo now s) =
      answered t room (response s src tag code a.status a.reason a.body) := by
  have gated : gate .console code body.length (advanceTo now s) = .passed := by
    rw [gate_ready (s := advanceTo now s) taken, if_neg (by simp [suits]), if_neg (fun h => nomatch h.1),
      if_neg (by simp [free])]
  rw [consoleOrder_passed (s := advanceTo now s) place gated, noteOrder, if_neg (by simp [free]), does]
  unfold respondConsole fillReservation responseTelegram answered response responsePayload
  rw [State.setBoard_settings, station, State.setBoard_board, board]
  rfl

theorem passOwnership_eq (side : Side) (s : State) : passOwnership side s = s.setOrders { s.orders with
    owner := side, claim := none, handover := none
    home := if s.settings.mode = .home ∧ side = .panel ∧ s.orders.chain = none then some (freshTimer s.now 2000000)
      else none } := by
  rw [passOwnership, startHome_eq]
  rfl

theorem orderCrel_open {side : Side} {s : State} (owner : s.orders.owner = side) (opened : s.orders.chain ≠ none) :
    orderCrel side s = (s, plain .busy) := by
  have opened' : s.orders.chain.isSome = true := Option.isSome_iff_ne_none.mpr opened
  simp [orderCrel, owner, opened']

theorem orderCrel_passes {side : Side} {s : State} (owner : s.orders.owner = side) (closed : s.orders.chain = none)
    (claimed : s.orders.claim ≠ none) : orderCrel side s =
      (passOwnership (otherSide side) s, ⟨.ok, 0, [byteOf (sideCode (otherSide side))]⟩) := by
  have claimed' : s.orders.claim.isSome = true := Option.isSome_iff_ne_none.mpr claimed
  simp [orderCrel, owner, closed, claimed', passOwnership_eq]

theorem orderCrel_withdraws {side : Side} {s : State} (owner : s.orders.owner ≠ side) (claimed : s.orders.claim ≠ none) :
    orderCrel side s = (dropClaim s, ⟨.ok, 0, [byteOf (sideCode s.orders.owner)]⟩) := by
  have claimed' : s.orders.claim.isSome = true := Option.isSome_iff_ne_none.mpr claimed
  simp [orderCrel, owner, claimed', dropClaim]

theorem orderCrel_unclaimed {side : Side} {s : State} (closed : s.orders.owner = side → s.orders.chain = none)
    (unclaimed : s.orders.claim = none) : orderCrel side s = (s, ⟨.ok, 0, [byteOf (sideCode s.orders.owner)]⟩) := by
  by_cases owner : s.orders.owner = side
  · simp [orderCrel, owner, closed owner, unclaimed]
  · simp [orderCrel, owner, unclaimed]

/-- Settles O39: CREL's clauses are its branches on the owner, the chain and the claim. -/
theorem relhAndCrelGiveWay : Obligations.RelhAndCrelGiveWay := by
  refine ⟨fun now src tag s room done place => ?_, fun now src tag s room serving place => ?_⟩
  · exact congrArg Host.Outcome.next (consoleOrder_taken_effect (a := plain .ok)
      (t := (advanceTo now s).setLoader { s.loader with hold := false }) ⟨done, fun _ => rfl⟩ place rfl rfl
      (fun b => rfl) rfl rfl)
  intro u Answered
  have answer {o : OrderHandler} {a : Answer} (does : ∀ b : BoardTransmitter,
      orderCrel .console (u.setBoard b) = ((u.setOrders o).setBoard b, a)) :
      exec (.crel now src tag []) s =
        .next (answered (u.setOrders o) room (response s src tag .crel a.status a.reason a.body)) :=
    congrArg Host.Outcome.next (consoleOrder_open_effect serving place rfl rfl does rfl rfl)
  have chain : u.orders.chain = none ↔ s.orders.chain = none := advanceTo_chain_none
  have claim : u.orders.claim = none ↔ s.orders.claim = none := advanceTo_claim_none
  refine ⟨fun owner opened => answer (a := plain .busy) fun b => orderCrel_open owner (mt chain.mp opened),
    fun owner closed claimed => answer (a := ⟨.ok, 0, [1]⟩) fun b => ?_,
    fun owner closed unclaimed => answer (a := ⟨.ok, 0, [0]⟩) fun b => ?_,
    fun owner claimed => answer (a := ⟨.ok, 0, [1]⟩) fun b => ?_,
    fun owner unclaimed => answer (a := ⟨.ok, 0, [1]⟩) fun b => ?_⟩
  · rw [orderCrel_passes (s := u.setBoard b) owner (chain.mpr closed) (mt claim.mp claimed), passOwnership_eq]
    simp only [State.setBoard_orders, chain.mpr closed, show otherSide .console = .panel from rfl, and_true]
    rfl
  · rw [orderCrel_unclaimed (s := u.setBoard b) (fun _ => chain.mpr closed) (claim.mpr unclaimed),
      show (u.setBoard b).orders.owner = .console from owner]
    rfl
  · have other : (u.setBoard b).orders.owner = .panel := owner
    have notOwner : s.orders.owner ≠ .console := by rw [owner]; exact nofun
    rw [orderCrel_withdraws (s := u.setBoard b) notOwner (mt claim.mp claimed), other]
    rfl
  · have other : (u.setBoard b).orders.owner = .panel := owner
    have notOwner : s.orders.owner ≠ .console := by rw [owner]; exact nofun
    rw [orderCrel_unclaimed (s := u.setBoard b) (fun own => absurd own notOwner) (claim.mpr unclaimed), other]
    rfl

end Sys2Proof.Machine
end
section
/-! The orders that read: STAT, LANE, TREAD and TREAD-TALLY answer from the state and change nothing (R151, R173). -/

namespace Sys2Proof.Machine

/-- A reading order, served and placed: it answers from the state in which its place stands reserved. -/
theorem consoleOrder_reads {now : Tick} {src tag : Byte} {code : OrderCode} {body : List Byte}
    {effect : State → State × Answer} {s : State} {room : List Telegram} {a : Answer} (serving : Serving s)
    (place : PlaceMade s room) (suits : lengthSuits code body.length = true) (free : needsChannel code = false)
    (reads : let x := (advanceTo now s).setBoard { (advanceTo now s).board with queue := room, reserved := true }
      effect x = (x, a)) :
    consoleOrder src code tag body effect (advanceTo now s) =
      answered (advanceTo now s) room (response s src tag code a.status a.reason a.body) := by
  rw [consoleOrder_open serving place suits free]
  dsimp only at reads
  rw [reads]
  rfl

theorem byteAt_left {a : List Byte} (b : List Byte) {k : Nat} (within : k < a.length) :
    byteAt (a ++ b) k = byteAt a k := by
  simp [byteAt, List.getElem?_append_left within]

theorem byteAt_right {a : List Byte} {n : Nat} (length : a.length = n) (b : List Byte) (k : Nat) :
    byteAt (a ++ b) (n + k) = byteAt b k := by
  subst length
  simp [byteAt, List.getElem?_append_right (Nat.le_add_right _ _)]

/-! ### STAT (R151) -/

theorem finishOrderBytes_length {s : State} (fits : s.results.order.length ≤ 10) : (finishOrderBytes s).length = 10 := by
  simp [finishOrderBytes, padTo]
  omega

theorem finishOrderBytes_at {s : State} {k : Nat} (within : k < 10) : byteAt (finishOrderBytes s) k =
    ((s.results.order[k]?).map fun lane => byteOf lane.val).getD 255 := by
  unfold finishOrderBytes padTo byteAt
  rw [List.getD_eq_getElem?_getD]
  by_cases listed : k < s.results.order.length
  · rw [List.getElem?_append_left (by simpa using listed)]
    simp [listed, laneByte]
  · rw [List.getElem?_append_right (by simpa using Nat.le_of_not_lt listed)]
    have within' : k - s.results.order.length < 10 - s.results.order.length := by omega
    simp [List.getElem?_eq_none (Nat.le_of_not_lt listed), within']

/-- STAT's bytes before the finish order list. -/
def statHead (s : State) : List Byte := [byteOf (heatCode s.heat.state), bankFlags s, byteOf s.results.revision]

/-- STAT's bytes behind the finish order list. -/
def statTail (s : State) : List Byte :=
  [byteOf s.board.queue.length, byteOf s.deck.queue.length, byteOf (sideCode s.orders.owner),
    markByte s.orders.claim.isSome, byteOf ((s.orders.chain.map fun c => tableNumber c.table).getD 0),
    byteOf (slotCode s.orders.slot)] ++ (noticeStatuses s ++ [byteOf (modeCode s.settings.mode), s.settings.station])

theorem orderStat_eq (s : State) : orderStat s = (s, ⟨.ok, 0, statHead s ++ (finishOrderBytes s ++ statTail s)⟩) := by
  unfold orderStat statHead statTail
  cases s.orders.chain <;> simp [byteOf]

theorem slotCode_runSlot (d : Nat) (slot : QuerySlot) : slotCode (runSlot d slot) = slotCode slot := by
  cases slot <;> rfl

/-- Settles O32: the 23 bytes are the head, the ten of the finish order list, and the tail. -/
theorem statReportsStatus : Obligations.StatReportsStatus := by
  intro now src tag s room serving place fits
  let x := (advanceTo now s).setBoard { (advanceTo now s).board with queue := room, reserved := true }
  refine ⟨statHead x ++ (finishOrderBytes x ++ statTail x), congrArg Host.Outcome.next
    (consoleOrder_reads (a := ⟨.ok, 0, statHead x ++ (finishOrderBytes x ++ statTail x)⟩) serving place rfl rfl (orderStat_eq x)), ?_⟩
  have list : (finishOrderBytes x).length = 10 := finishOrderBytes_length fits
  obtain ⟨h, l, statuses, bits⟩ := noticeStatuses_bits x
  have behind (k : Nat) : byteAt (statHead x ++ (finishOrderBytes x ++ statTail x)) (3 + (10 + k)) = byteAt (statTail x) k := by
    rw [byteAt_right (a := statHead x) (n := 3) rfl, byteAt_right list]
  have listed (k : Nat) (within : k < 10) : byteAt (statHead x ++ (finishOrderBytes x ++ statTail x)) (3 + k) =
      ((s.results.order[k]?).map fun lane => byteOf lane.val).getD 255 := by
    rw [byteAt_right (a := statHead x) (n := 3) rfl, byteAt_left _ (by rw [list]; exact within)]
    exact finishOrderBytes_at within
  have tail_eq : statTail x = [byteOf room.length, byteOf s.deck.queue.length, byteOf (sideCode s.orders.owner),
      markByte s.orders.claim.isSome, byteOf ((s.orders.chain.map fun c => tableNumber c.table).getD 0),
      byteOf (slotCode s.orders.slot), h, l, byteOf (modeCode s.settings.mode), s.settings.station] := by
    unfold statTail
    rw [statuses]
    simp [x, advanceTo, runOrders, slotCode_runSlot]
    rfl
  have tail (k : Nat) := (behind k).trans (congrArg (byteAt · k) tail_eq)
  refine ⟨?length, rfl, rfl, rfl, fun k within => ?order, tail 0, tail 1, ?console, ?panel, tail 3, tail 4, tail 5,
    fun k => ?notices, ?park, ?home, tail 9⟩
  case length => simp [statHead, list, tail_eq]
  case order =>
    rw [listed k within]
    cases s.results.order[k]? <;> rfl
  case console =>
    rw [tail 2]
    change byteOf (sideCode s.orders.owner) = 0 ↔ _
    cases s.orders.owner <;> decide
  case panel =>
    rw [tail 2]
    change byteOf (sideCode s.orders.owner) = 1 ↔ _
    cases s.orders.owner <;> decide
  case notices =>
    rw [tail 6, tail 7]
    exact (bits k.val (by omega)).trans (dif_pos k.isLt)
  case park =>
    rw [tail 8]
    change byteOf (modeCode s.settings.mode) = 0 ↔ _
    cases s.settings.mode <;> decide
  case home =>
    rw [tail 8]
    change byteOf (modeCode s.settings.mode) = 1 ↔ _
    cases s.settings.mode <;> decide

end Sys2Proof.Machine
end
section
/-! LANE, TREAD-TALLY and TREAD (R151, R173). -/

namespace Sys2Proof.Machine

/-! ### LANE (R151) -/

theorem laneOf_above {b : Byte} (above : 9 < b.toNat) : laneOf b = none := dif_neg (by omega)

theorem laneOf_byteOf (lane : Lane) : laneOf (byteOf lane.val) = some lane := laneOf_optLaneByte (some lane)

theorem shownTime_id (t : Option Int) : shownTime id t = int32 (t.getD 0) := by
  cases t <;> rfl

theorem verdictByte_eq (r : LaneRecord) (number : Nat) : verdictByte r number =
    ((r.exchanges.find? fun x => x.number == number).map fun x => byteOf (verdictCode x.verdict)).getD 0 := by
  unfold verdictByte
  cases r.exchanges.find? fun x => x.number == number <;> rfl

/-- A split on a page of LANE. -/
def splitBytes (x : Split) : List Byte := [markByte x.time.isSome] ++ shownTime id x.time

theorem splitBytes_length (x : Split) : (splitBytes x).length = 5 := by
  unfold splitBytes
  cases x.time <;> rfl

theorem orderLane_above {lane index : Byte} (above : 9 < lane.toNat) (s : State) :
    orderLane [lane, index] s = (s, refuse 1) := by
  unfold orderLane
  rw [show byteAt [lane, index] 0 = lane from rfl, laneOf_above above]

theorem orderLane_here (lane : Lane) (index : Byte) (s : State) : orderLane [byteOf lane.val, index] s =
    (s, if index.toNat = 0 then ⟨.ok, 0, laneHeadPage lane s.lanes[lane]⟩
      else if s.lanes[lane].lengthCount < index.toNat then plain .noData
      else ⟨.ok, 0, laneSplitsPage lane s.lanes[lane] index.toNat⟩) := by
  unfold orderLane
  rw [show byteAt [byteOf lane.val, index] 0 = byteOf lane.val from rfl, laneOf_byteOf]
  simp only [show byteAt [byteOf lane.val, index] 1 = index from rfl]
  split
  · rfl
  · split <;> rfl

/-- Settles O33: the head page names the record's fields; a splits page is cut out of the list of splits. -/
theorem laneReportsRecord : Obligations.LaneReportsRecord := by
  intro now src tag lane index s room serving place
  let x := (advanceTo now s).setBoard { (advanceTo now s).board with queue := room, reserved := true }
  refine ⟨fun above => congrArg Host.Outcome.next
    (consoleOrder_reads (a := refuse 1) serving place rfl rfl (orderLane_above above x)), fun l is => ?_⟩
  subst is
  intro r sample exchange verdict difference
  have answers (a : Answer) (reads : orderLane [byteOf l.val, index] x = (x, a)) :
      exec (.lane now src tag [byteOf l.val, index]) s =
        .next (answered (advanceTo now s) room (response s src tag .lane a.status a.reason a.body)) :=
    congrArg Host.Outcome.next (consoleOrder_reads (a := a) serving place rfl rfl reads)
  have effect := orderLane_here l index x
  refine ⟨fun zero => ?head, fun above => ?noData, fun from1 within whole => ?page⟩
  case head =>
    rw [if_pos (by rw [zero]; rfl)] at effect
    have samples (k : Nat) : sampleBytes r k = sample k := by
      unfold sampleBytes
      simp only [sample]
      cases r.samples[k]? <;> rfl
    refine (answers _ effect).trans (congrArg (fun body => Host.Outcome.next (answered (advanceTo now s) room
      (response s src tag .lane .ok 0 body))) ?_)
    unfold laneHeadPage
    simp only [← samples, shownTime_id, verdictByte_eq]
    rfl
  case noData =>
    rw [if_neg (by omega), if_pos (by exact above)] at effect
    exact answers _ effect
  case page =>
    rw [if_neg (by omega), if_neg (by exact Nat.not_lt.mpr within)] at effect
    have size : ((r.splits.drop (index.toNat - 1)).take 8).length = min 8 (r.lengthCount + 1 - index.toNat) := by
      rw [List.length_take, List.length_drop, whole]
      omega
    refine ⟨((r.splits.drop (index.toNat - 1)).take 8).flatMap splitBytes, ?_, ?_, fun k split below here => ?_⟩
    · have page : laneSplitsPage l r index.toNat = [byteOf l.val, index, byteOf (min 8 (r.lengthCount + 1 - index.toNat)), 0]
          ++ ((r.splits.drop (index.toNat - 1)).take 8).flatMap splitBytes := by
        rw [← size]
        exact congrArg (fun b => [byteOf l.val, b, byteOf ((r.splits.drop (index.toNat - 1)).take 8).length, 0]
          ++ ((r.splits.drop (index.toNat - 1)).take 8).flatMap splitBytes) (byteOf_toNat_self index)
      exact (answers _ effect).trans (congrArg (fun body => Host.Outcome.next (answered (advanceTo now s) room
        (response s src tag .lane .ok 0 body))) page)
    · rw [flatMap_length_of_sized splitBytes splitBytes_length, size, Nat.mul_comm]
    · obtain ⟨inside, is⟩ := List.getElem?_eq_some_iff.mp here
      have listed : k < ((r.splits.drop (index.toNat - 1)).take 8).length := by
        rw [List.length_take, List.length_drop]
        omega
      rw [Nat.mul_comm, chunk_of_entries splitBytes splitBytes_length _ k listed, List.getElem_take, List.getElem_drop, is]
      exact congrArg (flagByte [split.time.isSome] :: ·) (shownTime_id _)

/-! ### TREAD-TALLY (R173) -/

/-- Settles O35: the page is made of ten bytes a counter. -/
theorem treadTallyReportsCounters : Obligations.TreadTallyReportsCounters := by
  intro now src tag first asked s room serving place
  let x := (advanceTo now s).setBoard { (advanceTo now s).board with queue := room, reserved := true }
  have firstField : field [first, asked] 0 1 = first.toNat := by simp [field, number]
  have askedField : field [first, asked] 1 1 = asked.toNat := by simp [field, number]
  refine ⟨fun above => ?_, fun within => ?_⟩
  · have effect : orderTreadTally [first, asked] x = (x, refuse 1) := by
      unfold orderTreadTally
      rw [firstField]
      exact if_pos above
    exact congrArg Host.Outcome.next (consoleOrder_reads (a := refuse 1) serving place rfl rfl effect)
  · intro n
    let listed := ((s.tally.counters.toList.drop first.toNat).take n).zipIdx first.toNat
    have sized (p : TallyCounter × Nat) : (counterBytes p.2 p.1).length = 10 := rfl
    have size : listed.length = n := by
      simp only [listed, List.length_zipIdx, List.length_take, List.length_drop, Vector.length_toList]
      omega
    have effect : orderTreadTally [first, asked] x = (x, ⟨if n = asked.toNat then .ok else .trunc, 0,
        [flagByte [s.tally.frozen], flagByte [s.tally.freezeOnOverflow]]
          ++ listed.flatMap fun p => counterBytes p.2 p.1⟩) := by
      unfold orderTreadTally
      rw [firstField, askedField]
      refine (if_neg (by omega)).trans ?_
      have status : (if n < asked.toNat then Status.trunc else .ok) = if n = asked.toNat then .ok else .trunc := by
        by_cases all : n = asked.toNat
        · rw [if_pos all, if_neg (by omega)]
        · rw [if_neg all, if_pos (by omega)]
      dsimp only
      rw [status]
      rfl
    refine ⟨listed.flatMap fun p => counterBytes p.2 p.1, congrArg Host.Outcome.next (consoleOrder_reads
      (a := ⟨if n = asked.toNat then .ok else .trunc, 0, [flagByte [s.tally.frozen], flagByte [s.tally.freezeOnOverflow]]
        ++ listed.flatMap fun p => counterBytes p.2 p.1⟩) serving place rfl rfl effect), ?_, fun i from1 below => ?_⟩
    · rw [flatMap_length_of_sized _ sized, size, Nat.mul_comm]
    · have here : i.val - first.toNat < listed.length := by omega
      rw [Nat.mul_comm, chunk_of_entries (fun p : TallyCounter × Nat => counterBytes p.2 p.1) sized listed _ here]
      have entry : listed[i.val - first.toNat] = (s.tally.counters[i], i.val) := by
        simp only [listed, List.getElem_zipIdx, List.getElem_take, List.getElem_drop, Vector.getElem_toList]
        simp [show first.toNat + (i.val - first.toNat) = i.val by omega]
      rw [entry]
      rfl

/-! ### TREAD (R151, R63) -/

theorem effectiveKind_other {s : State} {i : Fin 64} {n : Node} :
    effectiveKind s.nodes i n = .other ↔ CountsAsOther s i n := by
  unfold effectiveKind CountsAsOther
  cases kind : n.entry.kind <;> simp [← firstOfKind_some]

/-- What the read form of a node entry adds to its written one. -/
def runtimeRead (n : Node) (other : Bool) : List Byte :=
  [byteOf (presenceCode n.run.presence), byteOf n.run.missCount, byteOf n.run.restCount,
    flagByte [n.run.boost, n.run.contact == .above, other]]

theorem nodeRead_eq (n : Node) (other : Bool) : nodeRead n other = nodeBytes (some n) ++ runtimeRead n other := by
  unfold nodeRead nodeBytes runtimeRead
  simp only [List.append_assoc, Bool.beq_eq_decide_eq]
  congr 1
  · congr 1
    congr 1
    congr 1
    · cases n.entry.kind <;> rfl
    · rcases n.entry.poolEnd with _ | (_ | _) <;> cases n.entry.lane <;> rfl
  · congr 3
    congr 1
    cases n.run.presence <;> rfl

theorem readForm_nodes (s : State) (bank : Bank) (k : Nat) : ReadForm s bank .nodes k (readEntry s bank .nodes k) := by
  intro i is
  subst is
  have entry : readEntry s bank .nodes i.val = nodeBytes s.nodes[i] ++ nodeRuntimeBytes s i := dif_pos i.isLt
  unfold nodeRuntimeBytes at entry
  refine ⟨fun none => ?_, fun n here => ⟨effectiveKind s.nodes i n == .other, by simp [effectiveKind_other], ?_⟩⟩
  · rw [none] at entry
    exact entry
  · rw [here] at entry
    rw [entry, nodeRead_eq]
    rfl

theorem readForm_filters (s : State) (bank : Bank) (k : Nat) :
    ReadForm s bank .filters k (readEntry s bank .filters k) := by
  intro i is
  subst is
  have entry : readEntry s bank .filters i.val = filterBytes s.filters[i] := dif_pos i.isLt
  rw [entry]
  rcases s.filters[i] with _ | ⟨value, mask, items, action⟩
  · rfl
  · cases action <;> rfl

theorem markByte_eq (b : Bool) : markByte b = if b then 1 else 0 := by
  cases b <;> rfl

theorem readForm_bank (s : State) (bank : Bank) (k : Nat) : ReadForm s bank .bank k (readEntry s bank .bank k) := by
  refine ⟨fun is => ?_, fun lane is => ?_⟩
  · subst is
    change headBytes bank.head = _
    cases bank.head <;> rfl
  · subst is
    have entry : readEntry s bank .bank (lane.val + 1) = laneEntryBytes bank.lanes[lane] := dif_pos lane.isLt
    rw [entry]
    dsimp only
    rw [← markByte_eq, ← markByte_eq]
    rfl

theorem readForm_patterns (s : State) (bank : Bank) (k : Nat) :
    ReadForm s bank .patterns k (readEntry s bank .patterns k) := by
  intro p is
  subst is
  have entry : readEntry s bank .patterns p.val = patternBytes s.lamps.patterns[p] := dif_pos p.isLt
  rw [entry]
  rcases s.lamps.patterns[p] with ⟨live, staged, phase, force⟩
  cases staged <;> cases force <;> rfl

theorem readForm_notices (s : State) (bank : Bank) (k : Nat) :
    ReadForm s bank .notices k (readEntry s bank .notices k) := by
  intro i is
  subst is
  have entry : readEntry s bank .notices i.val = [noticeByte s.orders.notices[i], markByte s.orders.notices[i].status] :=
    dif_pos i.isLt
  rw [entry]
  dsimp only
  rw [← markByte_eq]
  unfold noticeByte
  rw [Bool.beq_eq_decide_eq]

theorem readForm_settings (s : State) (bank : Bank) (k : Nat) :
    ReadForm s bank .settings k (readEntry s bank .settings k) := by
  refine ⟨fun is => ?_, fun is => ?_, fun is => ?_, fun m is => ?_⟩
  · subst is
    rfl
  · subst is
    change [byteOf (modeCode s.settings.mode)] = _
    cases s.settings.mode <;> rfl
  · subst is
    exact congrArg (fun b => [b]) (markByte_eq _)
  · subst is
    dsimp only
    rw [← markByte_eq]
    change [byteAt (settingsBytes s.settings) (3 + m.val)] = _
    unfold settingsBytes
    rw [byteAt_right (n := 3) rfl]
    simp [byteAt]

theorem readForm_readEntry (s : State) (bank : Bank) (code : TableCode) (k : Nat) :
    ReadForm s bank code k (readEntry s bank code k) := by
  cases code
  case nodes => exact readForm_nodes s bank k
  case filters => exact readForm_filters s bank k
  case bank => exact readForm_bank s bank k
  case patterns => exact readForm_patterns s bank k
  case notices => exact readForm_notices s bank k
  case settings => exact readForm_settings s bank k

/-- The bytes of `n` entries of a table from an index on. -/
def entriesFrom (s : State) (bank : Bank) (code : TableCode) (index n : Nat) : List Byte :=
  (List.range n).flatMap fun k => readEntry s bank code (index + k)

theorem entriesFrom_succ (s : State) (bank : Bank) (code : TableCode) (index n : Nat) :
    entriesFrom s bank code index (n + 1) = readEntry s bank code index ++ entriesFrom s bank code (index + 1) n := by
  unfold entriesFrom
  rw [List.range_succ_eq_map, List.flatMap_cons, List.flatMap_map]
  simp only [Nat.add_zero, Nat.succ_eq_add_one, Nat.add_assoc, Nat.add_comm 1]

/-- The entries read: as many as are asked, as the table has, or as the room holds. -/
theorem readEntries_spec (s : State) (bank : Bank) (code : TableCode) :
    ∀ (asked index room : Nat), index ≤ tableSize code →
      let n := (readEntries s bank code asked index room).length
      (readEntries s bank code asked index room).flatten = entriesFrom s bank code index n
        ∧ n ≤ asked ∧ index + n ≤ tableSize code ∧ (entriesFrom s bank code index n).length ≤ room
        ∧ (n = asked ∨ index + n = tableSize code ∨ room < (entriesFrom s bank code index (n + 1)).length)
  | 0, index, room, inside => ⟨rfl, Nat.le_refl _, inside, Nat.zero_le _, .inl rfl⟩
  | asked + 1, index, room, inside => by
    unfold readEntries
    by_cases beyond : tableSize code ≤ index
    · rw [if_pos beyond]
      exact ⟨rfl, Nat.zero_le _, inside, Nat.zero_le _, .inr (.inl (Nat.le_antisymm inside beyond))⟩
    · rw [if_neg beyond]
      dsimp only
      by_cases full : room < (readEntry s bank code index).length
      · rw [if_pos full]
        refine ⟨rfl, Nat.zero_le _, inside, Nat.zero_le _, .inr (.inr ?_)⟩
        rw [List.length_nil, entriesFrom_succ, List.length_append]
        omega
      · rw [if_neg full]
        obtain ⟨bytes, most, within, fits, ends⟩ := readEntries_spec s bank code asked (index + 1)
          (room - (readEntry s bank code index).length) (by omega)
        rw [List.flatten_cons, List.length_cons, entriesFrom_succ, bytes, List.length_append]
        rw [entriesFrom_succ s bank code index, List.length_append]
        exact ⟨rfl, by omega, by omega, by omega, by omega⟩

theorem tableOf_tableNumber (code : TableCode) : tableOf (byteOf (tableNumber code)).toNat = some code := by
  cases code <;> rfl

theorem field_one (body : List Byte) (k : Nat) (inside : k < body.length) : field body k 1 = (byteAt body k).toNat := by
  simp [field, byteAt, number, List.take_one, List.head?_drop, inside]

theorem orderTread_unknown {table : Byte} (which start asked : Byte) (unknown : tableOf table.toNat = none) (s : State) :
    orderTread [table, which, start, asked] s = (s, refuse 1) := by
  unfold orderTread
  rw [show byteAt [table, which, start, asked] 0 = table from rfl, unknown]

/-- A TREAD of a known table, past the test of its bank and its start. -/
def treadAnswer (table start asked : Byte) (entries : List (List Byte)) : Answer :=
  ⟨if entries.length < asked.toNat then .trunc else .ok, 0,
    [table, start, byteOf entries.length, 0] ++ entries.flatten⟩

theorem orderTread_known (code : TableCode) (which start asked : Byte) (s : State) :
    orderTread [byteOf (tableNumber code), which, start, asked] s =
      match if code = .bank then namedBank s which else some s.activeBank with
        | none => (s, refuse 2)
        | some bank => if tableSize code ≤ start.toNat then (s, refuse 2)
          else (s, treadAnswer (byteOf (tableNumber code)) start asked
            (readEntries s bank code asked.toNat start.toNat treadRoom)) := by
  unfold orderTread
  rw [show byteAt [byteOf (tableNumber code), which, start, asked] 0 = byteOf (tableNumber code) from rfl,
    tableOf_tableNumber, field_one _ 2 (by simp), field_one _ 3 (by simp)]
  rfl

/-- The bank a TREAD reads, where it names one. -/
def readBank (s : State) (code : TableCode) (which : Byte) : Bank :=
  if code = .bank ∧ which = 1 then s.standbyBank else s.activeBank

theorem namedBank_readBank {s : State} {code : TableCode} {which : Byte} (named : code = .bank → which.toNat ≤ 1) :
    (if code = .bank then namedBank s which else some s.activeBank) = some (readBank s code which) := by
  unfold namedBank readBank
  by_cases bank : code = .bank
  · have low := named bank
    by_cases zero : which = 0
    · simp [bank, zero]
    · have one : which = 1 := BitVec.eq_of_toNat_eq (by
        have : which.toNat ≠ 0 := fun is => zero (BitVec.eq_of_toNat_eq is)
        exact (by omega : which.toNat = 1))
      simp [bank, one]
  · simp [bank]

theorem namedBank_beyond {s : State} {which : Byte} (beyond : 1 < which.toNat) : namedBank s which = none := by
  unfold namedBank
  rw [if_neg (by rintro rfl; exact nomatch beyond), if_neg (by rintro rfl; exact absurd beyond (by decide))]

/-- Settles O34: `readEntries` stops at the first of the three limits. -/
theorem treadReportsEntries : Obligations.TreadReportsEntries := by
  intro now src tag table which start asked s room serving place
  let x := (advanceTo now s).setBoard { (advanceTo now s).board with queue := room, reserved := true }
  have answers (a : Answer) (reads : orderTread [table, which, start, asked] x = (x, a)) :
      exec (.tread now src tag [table, which, start, asked]) s =
        .next (answered (advanceTo now s) room (response s src tag .tread a.status a.reason a.body)) :=
    congrArg Host.Outcome.next (consoleOrder_reads (a := a) serving place rfl rfl reads)
  refine ⟨fun unknown => answers (refuse 1) (orderTread_unknown which start asked unknown x), fun code is => ?_⟩
  subst is
  have effect := orderTread_known code which start asked x
  refine ⟨fun refused => answers (refuse 2) ?_, fun inside named => ?_⟩
  · rw [effect]
    by_cases beyond : code = .bank ∧ 1 < which.toNat
    · rw [if_pos beyond.1, namedBank_beyond beyond.2]
    · rw [namedBank_readBank fun bank => Classical.byContradiction fun high => beyond ⟨bank, by omega⟩]
      exact if_pos (refused.resolve_right beyond)
  · intro bank
    rw [namedBank_readBank named] at effect
    replace effect := effect.trans (if_neg (Nat.not_le.mpr inside))
    obtain ⟨bytes, most, within, fits, ends⟩ := readEntries_spec x bank code asked.toNat start.toNat treadRoom
      (Nat.le_of_lt inside)
    generalize listed : readEntries x bank code asked.toNat start.toNat treadRoom = entries at bytes most within fits ends
    rw [show readBank x code which = bank from rfl, listed] at effect
    have same (k : Nat) : readEntry x bank code k = readEntry s bank code k := by
      cases code <;> rfl
    refine ⟨readEntry x bank code, entries.length, fun k => same k ▸ readForm_readEntry s bank code k,
      ?_, most, within, fits, ends⟩
    have status : (if entries.length < asked.toNat then Status.trunc else .ok) =
        if entries.length = asked.toNat then .ok else .trunc := by
      by_cases all : entries.length = asked.toNat
      · rw [if_pos all, if_neg (by omega)]
      · rw [if_neg all, if_pos (by omega)]
    refine (answers _ effect).trans ?_
    change Host.Outcome.next (answered (advanceTo now s) room (response s src tag .tread
      (if entries.length < asked.toNat then Status.trunc else .ok) 0
      ([byteOf (tableNumber code), start, byteOf entries.length, 0] ++ entries.flatten))) = _
    rw [status, bytes]
    rfl

end Sys2Proof.Machine
end
section
/-! Loading tables: the load chain, and what TLOAD refuses (R157 to R159). -/

namespace Sys2Proof.Machine

/-! ### The owner's turn and the load chain -/

/-- A channel-needing order of the console as owner, its RESPONSE sent from the station that the effect leaves. -/
theorem consoleOrder_owner_own {now : Tick} {src tag : Byte} {code : OrderCode} {body : List Byte}
    {effect : State → State × Answer} {s t : State} {room : List Telegram} {a : Answer} (served : ConsoleServed s)
    (place : PlaceMade s room) (suits : lengthSuits code body.length = true) (needs : needsChannel code = true)
    (does : ∀ b : BoardTransmitter, effect ((ownerTurn now s).setBoard b) = (t.setBoard b, a))
    (board : t.board = (advanceTo now s).board) :
    consoleOrder src code tag body effect (advanceTo now s) =
      answered t room (response t src tag code a.status a.reason a.body) := by
  rw [consoleOrder_owner served place suits needs, does]
  unfold respondConsole fillReservation responseTelegram answered response responsePayload
  rw [State.setBoard_settings, State.setBoard_board, board]
  rfl

theorem closeChain_eq (s : State) : closeChain s = s.setOrders { s.orders with
    chain := none
    handover := if s.orders.claim ≠ none then some (freshTimer s.now 50000) else s.orders.handover
    home := if s.settings.mode = .home ∧ s.orders.owner = .panel then some (freshTimer s.now 2000000)
      else s.orders.home } := by
  rw [closeChain, startHandover_eq, startHome_eq]
  simp only [State.setOrders_orders, and_true]
  rfl

/-- Where CONSOLE owns the channel, the end of a chain starts the handover timer alone. -/
theorem closeChain_console {s : State} (owner : s.orders.owner = .console) : closeChain s = s.setOrders { s.orders with
    chain := none
    handover := if s.orders.claim.isSome then some (freshTimer s.now 50000) else s.orders.handover } := by
  rw [closeChain_eq, if_neg (c := s.settings.mode = .home ∧ s.orders.owner = .panel) (by rw [owner]; simp)]
  cases s.orders.claim <;> rfl

theorem ownerTurn_claim (now : Tick) (s : State) : (ownerTurn now s).orders.claim.isSome = s.orders.claim.isSome := by
  unfold ownerTurn
  rw [noteOwnerOrder_timers]
  exact Option.isSome_map

theorem ownerTurn_owner (now : Tick) (s : State) : (ownerTurn now s).orders.owner = s.orders.owner := by
  unfold ownerTurn
  rw [noteOwnerOrder_timers]
  rfl

theorem ownerTurn_now (now : Tick) (s : State) : (ownerTurn now s).now = now := by
  rw [ownerTurn_eq]
  rfl

theorem ownerTurn_chain_none {now : Tick} {s : State} : (ownerTurn now s).orders.chain = none ↔ s.orders.chain = none := by
  unfold ownerTurn
  rw [noteOwnerOrder_chain]
  exact advanceTo_chain_none

/-- The state in which an owner's first telegram is tested: the chain that was open is aborted (R157). -/
def chainAborted (s : State) : State := if s.orders.chain.isSome then closeChain s else s

theorem chainAborted_none {s : State} (closed : s.orders.chain = none) : chainAborted s = s := by
  simp [chainAborted, closed]

/-- What aborting the chain leaves of an owner's turn of the console. -/
theorem chainAborted_ownerTurn {now : Tick} {s : State} (owner : s.orders.owner = .console) :
    chainAborted (ownerTurn now s) = if s.orders.chain.isSome then (ownerTurn now s).setOrders { (ownerTurn now s).orders with
      chain := none
      handover := if s.orders.claim.isSome then some (freshTimer now 50000) else (ownerTurn now s).orders.handover }
    else ownerTurn now s := by
  unfold chainAborted
  rw [closeChain_console ((ownerTurn_owner now s).trans owner), ownerTurn_claim, ownerTurn_now]
  cases chain : s.orders.chain with
  | none => rw [ownerTurn_chain_none.mpr chain]
  | some c =>
    have opened : (ownerTurn now s).orders.chain ≠ none := fun closed => nomatch chain.symm.trans (ownerTurn_chain_none.mp closed)
    rw [Option.isSome_iff_ne_none.mpr opened]
    rfl

theorem chainAborted_setBoard (s : State) (b : BoardTransmitter) :
    chainAborted (s.setBoard b) = (chainAborted s).setBoard b := by
  unfold chainAborted
  rw [closeChain_eq, closeChain_eq]
  change (if s.orders.chain.isSome = true then _ else _) = _
  split <;> rfl

theorem chainAborted_tables (s : State) : ∃ o, chainAborted s = s.setOrders o := by
  unfold chainAborted
  split
  · rw [closeChain_eq]
    exact ⟨_, rfl⟩
  · exact ⟨s.orders, rfl⟩

/-! ### The tests of a TLOAD (R157, R158) -/

theorem orderTload_first (table start total : Byte) (entries : List Byte) (s : State) :
    orderTload (1 :: table :: start :: total :: entries) s = tloadFirst (1 :: table :: start :: total :: entries) s := rfl

theorem orderTload_mark {mark : Byte} (rest : List Byte) (s : State) (notFirst : mark ≠ 1) (notNext : mark ≠ 0) :
    orderTload (mark :: rest) s = (s, refuse 4) := by
  unfold orderTload
  rw [if_neg (by exact notFirst), if_neg (by exact notNext)]

theorem orderTload_unopened (rest : List Byte) {s : State} (closed : s.orders.chain = none) :
    orderTload (0 :: rest) s = (s, refuse 3) := by
  unfold orderTload tloadContinuation
  rw [if_neg (by exact nofun), if_pos (by rfl), closed]

/-- The tests of a first telegram behind the test of its table. -/
def tloadTested (table : TableCode) (start total : Nat) (entries : List Byte) (s : State) : State × Answer :=
  if tableSize table < start + total then (s, refuse 2)
  else if tableBusy s table then (s, plain .busy)
  else
    match splitEntries table 44 start entries with
    | none => (s, refuse 14)
    | some entries => writeEntries ⟨table, start, total, freshTimer s.now 100000⟩ entries
        (openChain ⟨table, start, total, freshTimer s.now 100000⟩ s)

theorem tloadFirst_unknown {table : Byte} (start total : Byte) (entries : List Byte) (unknown : tableOf table.toNat = none)
    (s : State) : tloadFirst (1 :: table :: start :: total :: entries) s = (chainAborted s, refuse 1) := by
  unfold tloadFirst
  rw [show byteAt (1 :: table :: start :: total :: entries) 1 = table from rfl, unknown]
  rfl

theorem tloadFirst_known (code : TableCode) (start total : Byte) (entries : List Byte) (s : State) :
    tloadFirst (1 :: byteOf (tableNumber code) :: start :: total :: entries) s =
      tloadTested code start.toNat total.toNat entries (chainAborted s) := by
  unfold tloadFirst tloadTested
  rw [show byteAt (1 :: byteOf (tableNumber code) :: start :: total :: entries) 1 = byteOf (tableNumber code) from rfl,
    tableOf_tableNumber, field_one _ 2 (by simp), field_one _ 3 (by simp), ← startTimer_now]
  rfl

theorem tloadTested_beyond {table : TableCode} {start total : Nat} (entries : List Byte) (s : State)
    (beyond : tableSize table < start + total) : tloadTested table start total entries s = (s, refuse 2) := if_pos beyond

theorem tloadTested_busy {table : TableCode} {start total : Nat} (entries : List Byte) {s : State}
    (within : start + total ≤ tableSize table) (busy : tableBusy s table = true) :
    tloadTested table start total entries s = (s, plain .busy) :=
  (if_neg (Nat.not_lt.mpr within)).trans (if_pos busy)

theorem tloadTested_indivisible {table : TableCode} {start total : Nat} {entries : List Byte} {s : State}
    (within : start + total ≤ tableSize table) (idle : tableBusy s table = false)
    (parts : splitEntries table 44 start entries = none) : tloadTested table start total entries s = (s, refuse 14) := by
  unfold tloadTested
  rw [if_neg (Nat.not_lt.mpr within), idle, parts]
  rfl

theorem tloadTested_divided {table : TableCode} {start total : Nat} {entries : List Byte} {parts : List (List Byte)} {s : State}
    (within : start + total ≤ tableSize table) (idle : tableBusy s table = false)
    (divided : splitEntries table 44 start entries = some parts) : tloadTested table start total entries s =
      writeEntries ⟨table, start, total, freshTimer s.now 100000⟩ parts
        (openChain ⟨table, start, total, freshTimer s.now 100000⟩ s) := by
  unfold tloadTested
  rw [if_neg (Nat.not_lt.mpr within), idle, divided]
  rfl

theorem tableBusy_iff {s : State} {code : TableCode} : tableBusy s code = true ↔
    (code = .bank ∧ s.banks.pendingSwap = true) ∨ ((code = .nodes ∨ code = .patterns)
      ∧ (s.heat.state = .marks ∨ s.heat.state = .running ∨ s.heat.state = .closing)) := by
  cases code <;> simp [tableBusy, or_assoc]

/-- Entries of one size divide exactly when their bytes are a multiple of it. -/
theorem splitEntries_indivisible {table : TableCode} {size : Nat} (sized : ∀ k, entrySize table k = size) :
    ∀ (fuel index : Nat) (bytes : List Byte), bytes.length % size ≠ 0 → splitEntries table fuel index bytes = none
  | _, _, [], rest => absurd (Nat.zero_mod size) rest
  | 0, _, _ :: _, _ => rfl
  | fuel + 1, index, b :: bytes, rest => by
    unfold splitEntries
    rw [sized]
    by_cases short : (b :: bytes).length < size
    · exact if_pos short
    · refine (if_neg short).trans ?_
      have less : ((b :: bytes).drop size).length % size ≠ 0 := by
        rw [List.length_drop, ← Nat.mod_eq_sub_mod (Nat.le_of_not_lt short)]
        exact rest
      rw [splitEntries_indivisible sized fuel (index + 1) _ less]
      rfl

theorem tableBusy_of_tables {s t : State} (banks : t.banks = s.banks) (heat : t.heat = s.heat) (code : TableCode) :
    tableBusy t code = tableBusy s code := by
  unfold tableBusy
  rw [banks, heat]

theorem tableBusy_aborted (now : Tick) (s : State) (b : BoardTransmitter) (code : TableCode) :
    tableBusy (chainAborted ((ownerTurn now s).setBoard b)) code = tableBusy s code := by
  obtain ⟨o, eq⟩ := chainAborted_tables ((ownerTurn now s).setBoard b)
  rw [eq]
  exact tableBusy_of_tables (ownerTurn_banks now s) (ownerTurn_heat now s) code

/-- Settles O40: each refusal is one of the tests of `tloadFirst`, taken on the state whose open chain is aborted. -/
theorem tloadRefusals : Obligations.TloadRefusals := by
  intro now src tag mark table start total entries s room served place fits v body Answered first aborted racing
  have owner := served.2
  have suits : lengthSuits .tload body.length = true := by
    simp [lengthSuits, body]
    omega
  have abort (b : BoardTransmitter) : chainAborted (v.setBoard b) = aborted.setBoard b :=
    (chainAborted_setBoard v b).trans (congrArg (·.setBoard b) (chainAborted_ownerTurn owner))
  have board : aborted.board = (advanceTo now s).board := by
    simp only [aborted]
    split <;> exact ownerTurn_board now s
  have settings : aborted.settings = s.settings := by
    simp only [aborted]
    split <;> exact ownerTurn_settings now s
  have refused {a : Answer} (does : ∀ b, orderTload body (v.setBoard b) = (aborted.setBoard b, a)) :=
    consoleOrder_owner_effect (src := src) (tag := tag) (code := .tload) (body := body) (a := a) served place suits rfl
      does board (congrArg Settings.station settings)
  have kept {a : Answer} (does : ∀ b, orderTload body (v.setBoard b) = (v.setBoard b, a)) :=
    consoleOrder_owner_unchanged (src := src) (tag := tag) (code := .tload) (body := body) (a := a) served place suits rfl
      does
  refine ⟨fun notNext notFirst => congrArg Host.Outcome.next (kept fun b => orderTload_mark _ _ notFirst notNext),
    fun next closed => ?_, fun is unknown => ?_, fun code is known => ?_⟩
  · subst next
    exact congrArg Host.Outcome.next (kept fun b => orderTload_unopened _ (by exact ownerTurn_chain_none.mpr closed))
  · subst is
    exact congrArg Host.Outcome.next (refused fun b => (tloadFirst_unknown start total entries unknown _).trans
      (congrArg (·, refuse 1) (abort b)))
  · subst is known
    intro busy
    have tested {a : Answer} (b : BoardTransmitter) (here : tloadTested code start.toNat total.toNat entries
        (chainAborted (v.setBoard b)) = (chainAborted (v.setBoard b), a)) :
        orderTload body (v.setBoard b) = (aborted.setBoard b, a) :=
      ((tloadFirst_known code start total entries _).trans here).trans (congrArg (·, a) (abort b))
    refine ⟨fun beyond => ?_, fun within isBusy => ?_, fun within idle rest => ?_⟩
    · exact congrArg Host.Outcome.next (refused fun b => tested b (tloadTested_beyond entries _ beyond))
    · exact congrArg Host.Outcome.next (refused fun b => tested b (tloadTested_busy entries within
        ((tableBusy_aborted now s b code).trans (tableBusy_iff.mpr isBusy))))
    · have parts : splitEntries code 44 start.toNat entries = none := by
        rcases rest with ⟨rfl, rest⟩ | ⟨rfl, rest⟩
        · exact splitEntries_indivisible (size := 10) (fun _ => rfl) _ _ _ rest
        · exact splitEntries_indivisible (size := 5) (fun _ => rfl) _ _ _ rest
      exact congrArg Host.Outcome.next (refused fun b => tested b (tloadTested_indivisible within
        ((tableBusy_aborted now s b code).trans (Bool.eq_false_iff.mpr (mt tableBusy_iff.mp idle))) parts))

/-! ### A chain to the notices table (R157 to R159) -/

theorem splitEntries_ones {table : TableCode} (sized : ∀ k, entrySize table k = 1) :
    ∀ (fuel index : Nat) (bytes : List Byte), bytes.length ≤ fuel →
      splitEntries table fuel index bytes = some (bytes.map fun b => [b])
  | 0, _, [], _ => rfl
  | _ + 1, _, [], _ => rfl
  | fuel + 1, index, b :: bytes, fits => by
    unfold splitEntries
    rw [sized]
    refine (if_neg (by simp)).trans ?_
    rw [List.drop_one, List.tail_cons, splitEntries_ones sized fuel (index + 1) bytes (Nat.le_of_succ_le_succ fits)]
    rfl

/-- The notices when bytes have been written to them from an index on. -/
def noticesWritten (start : Nat) (entries : List Byte) (notices : Vector Notice 12) : Vector Notice 12 :=
  Vector.ofFn fun k : Fin 12 =>
    if start ≤ k.val ∧ k.val < start + entries.length then noticeWrite notices[k] (entries.getD (k.val - start) 0)
    else notices[k]

theorem noticesWritten_entry (start : Nat) (entries : List Byte) (notices : Vector Notice 12) (k : Fin 12) :
    (noticesWritten start entries notices)[k] =
      if start ≤ k.val ∧ k.val < start + entries.length then noticeWrite notices[k] (entries.getD (k.val - start) 0)
      else notices[k] := by
  simp [noticesWritten]

theorem noticesWritten_nil (start : Nat) (notices : Vector Notice 12) : noticesWritten start [] notices = notices := by
  ext k inside
  have entry := noticesWritten_entry start [] notices ⟨k, inside⟩
  rw [if_neg (by rintro ⟨low, high⟩; exact absurd high (Nat.not_lt.mpr low))] at entry
  exact entry

theorem noticesWritten_cons (start : Nat) (h : start < 12) (b : Byte) (entries : List Byte) (notices : Vector Notice 12) :
    noticesWritten (start + 1) entries (modifyAt notices ⟨start, h⟩ fun n => noticeWrite n b) =
      noticesWritten start (b :: entries) notices := by
  ext k inside
  have one := noticesWritten_entry (start + 1) entries (modifyAt notices ⟨start, h⟩ fun n => noticeWrite n b) ⟨k, inside⟩
  have other := noticesWritten_entry start (b :: entries) notices ⟨k, inside⟩
  refine one.trans (Eq.trans ?_ other.symm)
  simp only [Fin.getElem_fin, modifyAt_getElem, List.length_cons]
  by_cases here : k = start
  · subst here
    rw [if_neg (by omega), if_pos rfl, if_pos (by omega), Nat.sub_self]
    rfl
  · rw [if_neg (show ¬ start = k from fun is => here is.symm)]
    by_cases behind : start + 1 ≤ k ∧ k < start + 1 + entries.length
    · rw [if_pos behind, if_pos (by omega), show k - start = (k - (start + 1)) + 1 by omega]
      rfl
    · rw [if_neg behind, if_neg (by omega)]

/-- What a telegram's bytes do to the notices table: those that are to come are written, none is refused. -/
theorem takeEntries_notices (entries : List Byte) : ∀ w : Written, w.next + w.toCome ≤ 12 →
    (entries.map fun b => [b]).foldl (takeEntry .notices) w =
      { w with
        state := w.state.setOrders { w.state.orders with
          notices := noticesWritten w.next (entries.take w.toCome) w.state.orders.notices }
        next := w.next + min entries.length w.toCome, toCome := w.toCome - min entries.length w.toCome
        written := w.written + min entries.length w.toCome
        overflowed := w.overflowed || decide (w.toCome < entries.length) } := by
  induction entries with
  | nil =>
    intro w inside
    simp [noticesWritten_nil]
    rfl
  | cons b entries ih =>
    intro w inside
    rw [List.map_cons, List.foldl_cons]
    by_cases done : w.toCome = 0
    · have taken : takeEntry .notices w [b] = { w with overflowed := true } := if_pos done
      rw [taken, ih { w with overflowed := true } inside]
      simp [done, noticesWritten_nil]
    · have here : w.next < 12 := by omega
      have taken : takeEntry .notices w [b] = { w with
          state := w.state.setOrders { w.state.orders with
            notices := modifyAt w.state.orders.notices ⟨w.next, here⟩ fun n => noticeWrite n b }
          next := w.next + 1, toCome := w.toCome - 1, written := w.written + 1 } := by
        unfold takeEntry
        rw [if_neg done, show writeEntry .notices w.next [b] w.state = _ from dif_pos here]
        rfl
      obtain ⟨m, more⟩ : ∃ m, w.toCome = m + 1 := ⟨w.toCome - 1, by omega⟩
      rw [taken, ih _ (by dsimp only; omega)]
      have least : min (entries.length + 1) (m + 1) = min entries.length m + 1 := by omega
      simp only [more, least, Nat.add_sub_cancel, State.setOrders_orders, List.take_succ_cons, noticesWritten_cons,
        Nat.add_assoc, Nat.add_comm 1, Nat.add_sub_add_right, List.length_cons, Nat.add_lt_add_iff_right]
      rfl

/-- A telegram of an open chain to the notices table, of the console as owner. -/
theorem writeEntries_notices {s : State} {start toCome : Nat} {gap : Timer} (entries : List Byte)
    (owner : s.orders.owner = .console)
    (inside : start + toCome ≤ 12) :
    let n := min entries.length toCome
    writeEntries ⟨.notices, start, toCome, gap⟩ (entries.map fun b => [b]) s =
      (s.setOrders { s.orders with
        notices := noticesWritten start (entries.take toCome) s.orders.notices
        chain := if n = toCome then none else some ⟨.notices, start + n, toCome - n, gap⟩
        handover := if n = toCome ∧ s.orders.claim.isSome then some (freshTimer s.now 50000) else s.orders.handover },
        ⟨if toCome < entries.length then .trunc else .ok, 0,
          [byteOf n, 0, 255, if n = toCome then 255 else byteOf (start + n)]⟩) := by
  intro n
  have zero : byteOf 0 = 0 := rfl
  have high : byteOf 255 = 255 := rfl
  unfold writeEntries
  rw [takeEntries_notices entries ⟨s, start, toCome, 0, 0, none, false⟩ inside]
  simp only [Bool.false_or, decide_eq_true_eq, Nat.zero_add, Option.getD_none, zero, high]
  by_cases closes : n = toCome
  · rw [if_pos (show toCome - n = 0 by omega), if_pos closes, if_pos closes, closeChain_console (by exact owner)]
    have closes' : min entries.length toCome = toCome := closes
    simp only [n, closes', true_and]
    rfl
  · rw [if_neg (show ¬ toCome - n = 0 by omega), if_neg closes, if_neg closes, if_neg (show ¬ (n = toCome ∧ s.orders.claim.isSome = true) from fun h => closes h.1)]
    rfl

/-- Settles O41: the entries are written by one fold, whose outcome `writeEntries_notices` tells for a first telegram and for
a continuation. -/
theorem loadChainWritesNotices : Obligations.LoadChainWritesNotices := by
  intro now src tag first total x y z entries s room served place fits v Written
  have owner : v.orders.owner = .console := (ownerTurn_owner now s).trans served.2
  have claim : v.orders.claim.isSome = s.orders.claim.isSome := ownerTurn_claim now s
  have notices : v.orders.notices = s.orders.notices := noteOwnerOrder_notices _
  have divided (index : Nat) : splitEntries .notices 44 index entries = some (entries.map fun b => [b]) :=
    splitEntries_ones (fun _ => rfl) 44 index entries (by omega)
  have entry (start toCome : Nat) (k : Fin 12) : (noticesWritten start (entries.take toCome) v.orders.notices)[k] =
      if start ≤ k.val ∧ k.val < start + min entries.length toCome then
        { s.orders.notices[k] with
          enabled := (entries.getD (k.val - start) 0).getLsbD 0
          direction := if (entries.getD (k.val - start) 0).getLsbD 1 then .panel else .board }
      else s.orders.notices[k] := by
    rw [noticesWritten_entry, notices, List.length_take, Nat.min_comm]
    by_cases inside : start ≤ k.val ∧ k.val < start + min entries.length toCome
    · rw [if_pos inside, if_pos inside]
      have taken : (entries.take toCome).getD (k.val - start) 0 = entries.getD (k.val - start) 0 := by
        rw [List.getD_eq_getElem?_getD, List.getElem?_take_of_lt (by omega), ← List.getD_eq_getElem?_getD]
      rw [taken]
      rfl
    · rw [if_neg inside, if_neg inside]
  have turn : v.now = now := ownerTurn_now now s
  have sent {body : List Byte} {start toCome : Nat} {handover home : Option Timer} (suits : lengthSuits .tload body.length = true)
      (does : ∀ b, orderTload body (v.setBoard b) =
        ((v.setOrders { v.orders with
            notices := noticesWritten start (entries.take toCome) v.orders.notices
            chain := if min entries.length toCome = toCome then none else
              some ⟨.notices, start + min entries.length toCome, toCome - min entries.length toCome, freshTimer now 100000⟩
            handover := if min entries.length toCome = toCome ∧ v.orders.claim.isSome then some (freshTimer v.now 50000)
              else handover
            home := home }).setBoard b,
          ⟨if toCome < entries.length then .trunc else .ok, 0, [byteOf (min entries.length toCome), 0, 255,
            if min entries.length toCome = toCome then 255 else byteOf (start + min entries.length toCome)]⟩)) :=
    consoleOrder_owner_effect (src := src) (tag := tag) (code := .tload) served place suits rfl does (ownerTurn_board now s)
      (congrArg Settings.station (ownerTurn_settings now s))
  refine ⟨fun closed inside => ⟨noticesWritten first.toNat (entries.take total.toNat) v.orders.notices,
    entry first.toNat total.toNat, ?_⟩, fun next toCome gap opened inside =>
      ⟨noticesWritten next (entries.take toCome) v.orders.notices, entry next toCome, ?_⟩⟩
  · have divides (b : BoardTransmitter) : tloadFirst ([1, 5, first, total] ++ entries) (v.setBoard b) =
        writeEntries ⟨.notices, first.toNat, total.toNat, freshTimer now 100000⟩ (entries.map fun b => [b])
          (openChain ⟨.notices, first.toNat, total.toNat, freshTimer now 100000⟩ (v.setBoard b)) := by
      have clock : (v.setBoard b).now = now := ownerTurn_now now s
      have none : (v.setBoard b).orders.chain = none := ownerTurn_chain_none.mpr closed
      refine (tloadFirst_known .notices first total entries _).trans ?_
      rw [chainAborted_none none, tloadTested_divided inside rfl (divided _), clock]
    have writes (b : BoardTransmitter) := (divides b).trans (writeEntries_notices (s := openChain
      ⟨.notices, first.toNat, total.toNat, freshTimer now 100000⟩ (v.setBoard b)) entries owner inside)
    have sent := sent (body := [1, 5, first, total] ++ entries) (start := first.toNat) (toCome := total.toNat) (handover := none) (home := none)
      (by simp [lengthSuits]; omega) writes
    rw [claim, turn] at sent
    exact congrArg Host.Outcome.next sent
  · have continues (b : BoardTransmitter) : orderTload ([0, x, y, z] ++ entries) (v.setBoard b) =
        writeEntries ⟨.notices, next, toCome, freshTimer now 100000⟩ (entries.map fun b => [b])
          ((v.setBoard b).setOrders { v.orders with chain := some ⟨.notices, next, toCome, freshTimer now 100000⟩ }) := by
      obtain ⟨old, chain⟩ : ∃ old, (v.setBoard b).orders.chain = some ⟨.notices, next, toCome, old⟩ := by
        refine ⟨runTimer (now - s.clock.tick).toNat gap, ?_⟩
        change v.orders.chain = _
        rw [show v.orders.chain = (advanceTo now s).orders.chain from noteOwnerOrder_chain _]
        change s.orders.chain.map _ = _
        rw [opened]
        rfl
      have started : startTimer (v.setBoard b).now (v.setBoard b).now Config.chainGapSpan = freshTimer now 100000 := by
        rw [startTimer_now, show (v.setBoard b).now = now from turn]
        rfl
      unfold orderTload tloadContinuation
      rw [if_neg (by exact nofun), if_pos (by rfl), chain]
      dsimp only
      rw [started, show ([0, x, y, z] ++ entries).drop 4 = entries from rfl, divided]
      rfl
    have writes (b : BoardTransmitter) := (continues b).trans (writeEntries_notices (s := (v.setBoard b).setOrders
      { v.orders with chain := some ⟨.notices, next, toCome, freshTimer now 100000⟩ }) entries owner inside)
    have sent := sent (body := [0, x, y, z] ++ entries) (start := next) (toCome := toCome) (handover := v.orders.handover) (home := v.orders.home)
      (by simp [lengthSuits]; omega) writes
    rw [claim, turn] at sent
    exact congrArg Host.Outcome.next sent

end Sys2Proof.Machine
end
section
/-! Writes of single entries by TLOAD: nodes, settings, filters and the standby bank (R22 to R24, R36, R58 to R61, R160). -/

namespace Sys2Proof.Machine

/-! ### A chain of one entry -/

@[simp] theorem ownerTurn_deck (now : Tick) (s : State) : (ownerTurn now s).deck = (advanceTo now s).deck := by
  rw [ownerTurn_eq]; rfl

@[simp] theorem ownerTurn_lanes (now : Tick) (s : State) : (ownerTurn now s).lanes = s.lanes := by
  rw [ownerTurn_eq]; rfl

@[simp] theorem ownerTurn_results (now : Tick) (s : State) : (ownerTurn now s).results = s.results := by
  rw [ownerTurn_eq]; rfl

@[simp] theorem ownerTurn_tally (now : Tick) (s : State) : (ownerTurn now s).tally = s.tally := by
  rw [ownerTurn_eq]; rfl

theorem closeChain_setBoard (s : State) (b : BoardTransmitter) : closeChain (s.setBoard b) = (closeChain s).setBoard b := by
  rw [closeChain_eq, closeChain_eq]
  rfl

theorem closeChain_setNodes (s : State) (n : NodeTable) : closeChain (s.setNodes n) = (closeChain s).setNodes n := by
  rw [closeChain_eq, closeChain_eq]
  rfl

theorem closeChain_setFilters (s : State) (f : FilterTable) :
    closeChain (s.setFilters f) = (closeChain s).setFilters f := by
  rw [closeChain_eq, closeChain_eq]
  rfl

theorem closeChain_setBanks (s : State) (b : BankStore) : closeChain (s.setBanks b) = (closeChain s).setBanks b := by
  rw [closeChain_eq, closeChain_eq]
  rfl

theorem closeChain_setStatus (k : NoticeKind) (b : Bool) (s : State) :
    closeChain (setStatus k b s) = setStatus k b (closeChain s) := by
  unfold setStatus
  rw [closeChain_eq, closeChain_eq]
  rfl

/-- The state in which the one entry of a first telegram of the owner is written. -/
def oneOpened (now : Tick) (s : State) (code : TableCode) (index : Nat) : State :=
  openChain ⟨code, index, 1, freshTimer now 100000⟩ (ownerTurn now s)

theorem oneOpened_owner {now : Tick} {s : State} (owner : s.orders.owner = .console) (code : TableCode) (index : Nat) :
    (oneOpened now s code index).orders.owner = .console := (ownerTurn_owner now s).trans owner

theorem closeChain_oneOpened {now : Tick} {s : State} (owner : s.orders.owner = .console) (code : TableCode) (index : Nat) :
    closeChain (oneOpened now s code index) = loadedTurn now s := by
  have claim : (oneOpened now s code index).orders.claim.isSome = s.orders.claim.isSome := ownerTurn_claim now s
  have clock : (oneOpened now s code index).now = now := ownerTurn_now now s
  rw [closeChain_console (oneOpened_owner owner code index), claim, clock]
  rfl

theorem splitEntries_one {table : TableCode} {index : Nat} {e : List Byte} (sized : e.length = entrySize table index)
    (some' : e ≠ []) : splitEntries table 44 index e = some [e] := by
  obtain ⟨b, rest, rfl⟩ := List.exists_cons_of_ne_nil some'
  unfold splitEntries
  rw [← sized]
  refine (if_neg (Nat.lt_irrefl _)).trans ?_
  rw [List.drop_length, List.take_length]
  unfold splitEntries
  rfl

/-- The one entry of a chain is written, and the chain closes. -/
theorem writeEntries_one {table : TableCode} {index : Nat} {gap : Timer} {e : List Byte} {s w : State}
    (written : writeEntry table index e s = some w) :
    writeEntries ⟨table, index, 1, gap⟩ [e] s = (closeChain w, ⟨.ok, 0, [1, 0, 255, 255]⟩) := by
  simp [writeEntries, takeEntry, written]
  decide

/-- The one entry of a chain is refused, and the chain closes. -/
theorem writeEntries_none {table : TableCode} {index : Nat} {gap : Timer} {e : List Byte} {s : State}
    (refused : writeEntry table index e s = none) :
    writeEntries ⟨table, index, 1, gap⟩ [e] s = (closeChain s, ⟨.ok, 0, [0, 1, byteOf index, 255]⟩) := by
  simp [writeEntries, takeEntry, refused]
  decide

theorem entrySize_le (code : TableCode) (k : Nat) : entrySize code k ≤ 21 := by
  cases code <;> unfold entrySize <;> grind

theorem one_suits {code : TableCode} {index : Byte} {e : List Byte} (sized : e.length = entrySize code index.toNat) :
    lengthSuits .tload ([1, byteOf (tableNumber code), index, 1] ++ e).length = true := by
  have := entrySize_le code index.toNat
  simp [lengthSuits]
  omega

/-- The owner's load of one entry, served and placed: its tests are passed. -/
theorem tload_divides {now : Tick} {code : TableCode} {index : Byte} {e : List Byte} {s : State}
    (closed : s.orders.chain = none) (idle : tableBusy s code = false) (sized : e.length = entrySize code index.toNat)
    (some' : e ≠ []) (within : index.toNat < tableSize code) (b : BoardTransmitter) :
    orderTload ([1, byteOf (tableNumber code), index, 1] ++ e) ((ownerTurn now s).setBoard b) =
      writeEntries ⟨code, index.toNat, 1, freshTimer now 100000⟩ [e] ((oneOpened now s code index.toNat).setBoard b) := by
  have clock : ((ownerTurn now s).setBoard b).now = now := ownerTurn_now now s
  have none : ((ownerTurn now s).setBoard b).orders.chain = none := ownerTurn_chain_none.mpr closed
  have quiet : tableBusy ((ownerTurn now s).setBoard b) code = false :=
    (tableBusy_of_tables (ownerTurn_banks now s) (ownerTurn_heat now s) code).trans idle
  refine (tloadFirst_known code index 1 e _).trans ?_
  rw [chainAborted_none none, tloadTested_divided within quiet (splitEntries_one sized some'), clock]
  rfl

/-- A load of one entry that is written. -/
theorem tload_written {now : Tick} {src tag : Byte} {code : TableCode} {index : Byte} {e : List Byte} {s w : State}
    {room : List Telegram} (served : ConsoleServed s) (place : PlaceMade s room)
    (closed : s.orders.chain = none) (idle : tableBusy s code = false) (sized : e.length = entrySize code index.toNat)
    (some' : e ≠ []) (within : index.toNat < tableSize code)
    (writes : ∀ b, writeEntry code index.toNat e ((oneOpened now s code index.toNat).setBoard b) = some (w.setBoard b))
    (board : (closeChain w).board = (advanceTo now s).board) :
    exec (.tloadFirst now src tag ([1, byteOf (tableNumber code), index, 1] ++ e)) s =
      .next (answered (closeChain w) room (response (closeChain w) src tag .tload .ok 0 [1, 0, 255, 255])) := by
  refine congrArg Host.Outcome.next (consoleOrder_owner_own (a := ⟨.ok, 0, [1, 0, 255, 255]⟩) served place (one_suits sized) rfl
    (fun b => (tload_divides closed idle sized some' within b).trans ?_) board)
  rw [writeEntries_one (writes b), closeChain_setBoard]

/-- A load of one entry that is refused. -/
theorem tload_refused {now : Tick} {src tag : Byte} {code : TableCode} {index : Byte} {e : List Byte} {s : State}
    {room : List Telegram} (served : ConsoleServed s) (place : PlaceMade s room)
    (closed : s.orders.chain = none) (idle : tableBusy s code = false) (sized : e.length = entrySize code index.toNat)
    (some' : e ≠ []) (within : index.toNat < tableSize code)
    (refuses : ∀ b, writeEntry code index.toNat e ((oneOpened now s code index.toNat).setBoard b) = none) :
    exec (.tloadFirst now src tag ([1, byteOf (tableNumber code), index, 1] ++ e)) s =
      .next (answered (loadedTurn now s) room (response (loadedTurn now s) src tag .tload .ok 0 [0, 1, index, 255])) := by
  refine congrArg Host.Outcome.next (consoleOrder_owner_own (a := ⟨.ok, 0, [0, 1, index, 255]⟩) served place (one_suits sized) rfl
    (fun b => (tload_divides closed idle sized some' within b).trans ?_) (ownerTurn_board now s))
  rw [writeEntries_none (refuses b), closeChain_setBoard, closeChain_oneOpened served.2, byteOf_toNat_self]

theorem response_of_settings {s t : State} (settings : t.settings = s.settings) (src tag : Byte) (code : OrderCode)
    (status : Status) (reason : Nat) (body : List Byte) :
    response t src tag code status reason body = response s src tag code status reason body := by
  unfold response
  rw [settings]

/-! ### Node entries (R22 to R24) -/

theorem field_two (body : List Byte) (k : Nat) (inside : k + 1 < body.length) :
    field body k 2 = 256 * (byteAt body k).toNat + (byteAt body (k + 1)).toNat := by
  have first : k < body.length := Nat.lt_of_succ_lt inside
  have cut : (body.drop k).take 2 = [body[k], body[k + 1]] := by
    rw [List.drop_eq_getElem_cons first, List.drop_eq_getElem_cons inside]
    rfl
  simp [field, cut, number, byteAt, first, inside]

theorem nodeKindOf_some {k : Nat} {kind : NodeKind} (known : nodeKindOf k = some kind) : nodeKindCode kind = k := by
  unfold nodeKindOf at known
  split at known <;> cases known <;> rfl

theorem nodeKindOf_isSome {k : Nat} : (∃ kind, nodeKindOf k = some kind) ↔ k ≤ 5 := by
  constructor
  · rintro ⟨kind, known⟩
    rw [← nodeKindOf_some known]
    cases kind <;> decide
  · intro low
    match k, low with
    | 0, _ | 1, _ | 2, _ | 3, _ | 4, _ | 5, _ => exact ⟨_, rfl⟩

theorem laneOf_isSome {b : Byte} : (laneOf b).isSome = true ↔ b.toNat ≤ 9 := by
  unfold laneOf
  split
  · simp only [Option.isSome_some, true_iff]
    omega
  · simp only [Option.isSome_none, Bool.false_eq_true, false_iff]
    omega

theorem byte_eq_iff {b c : Byte} : b = c ↔ b.toNat = c.toNat := ⟨congrArg _, BitVec.eq_of_toNat_eq⟩

theorem poolEndOf_isSome {b : Byte} : (poolEndOf b).isSome = true ↔ b.toNat ≤ 1 := by
  unfold poolEndOf
  split
  · next zero => subst zero; decide
  · next notZero =>
    split
    · next one => subst one; decide
    · next notOne =>
      have low : b.toNat ≠ 0 := fun is => notZero (byte_eq_iff.mpr is)
      have high : b.toNat ≠ 1 := fun is => notOne (byte_eq_iff.mpr is)
      simp only [Option.isSome_none, Bool.false_eq_true, false_iff]
      omega

theorem positionOf_isSome {b : Byte} : (positionOf b).isSome = true ↔ 1 ≤ b.toNat ∧ b.toNat ≤ 3 := by
  unfold positionOf
  split
  · next inside => simp [inside]
  · next outside => simp [outside]

/-- Conditions 4 to 6 of R23, by the kind's code. -/
theorem roleFits_storedNode {e : List Byte} {kind : NodeKind} : roleFits (storedNode e kind) = true ↔
    (nodeKindCode kind = 1 ∨ nodeKindCode kind = 2 ∨ nodeKindCode kind = 3 → (byteAt e 3).toNat ≤ 9)
      ∧ (nodeKindCode kind = 2 ∨ nodeKindCode kind = 3 → (byteAt e 4).toNat ≤ 1)
      ∧ (nodeKindCode kind = 3 → 1 ≤ (byteAt e 5).toNat ∧ (byteAt e 5).toNat ≤ 3) := by
  rw [← laneOf_isSome, ← poolEndOf_isSome, ← positionOf_isSome]
  cases kind <;> simp [roleFits, storedNode, needsLane, nodeKindCode, and_assoc]

/-- The conditions of R23 are those that the model tests. -/
theorem nodeAccepted_iff {s : State} {i : Fin 64} {e : List Byte} : NodeAccepted s i e ↔
    stationFits s i (byteAt e 1) = true
      ∧ ∃ kind, nodeKindOf (byteAt e 2).toNat = some kind ∧ roleFits (storedNode e kind) = true := by
  unfold NodeAccepted
  rw [stationFits_iff]
  constructor
  · rintro ⟨low, high, own, free, known, roles⟩
    obtain ⟨kind, is⟩ := nodeKindOf_isSome.mpr known
    exact ⟨⟨low, high, own, free⟩, kind, is, roleFits_storedNode.mpr (nodeKindOf_some is ▸ roles)⟩
  · rintro ⟨⟨low, high, own, free⟩, kind, is, roles⟩
    have roles := roleFits_storedNode.mp roles
    rw [nodeKindOf_some is] at roles
    exact ⟨low, high, own, free, nodeKindOf_isSome.mp ⟨kind, is⟩, roles⟩

theorem laneOf_low {b : Byte} (low : b.toNat ≤ 9) : ∃ lane : Lane, laneOf b = some lane ∧ lane.val = b.toNat :=
  ⟨⟨b.toNat, by omega⟩, dif_pos (by omega), rfl⟩

theorem poolEndOf_low {b : Byte} (low : b.toNat ≤ 1) : poolEndOf b = if b = 0 then some .start else some .turn := by
  unfold poolEndOf
  by_cases zero : b = 0
  · rw [if_pos zero, if_pos zero]
  · have one : b = 1 := byte_eq_iff.mpr (by
      have : b.toNat ≠ 0 := fun is => zero (byte_eq_iff.mpr is)
      exact (by omega : b.toNat = 1))
    rw [if_neg zero, if_neg zero, if_pos one]

/-- What an accepted loading write stores (R22, R24). -/
theorem storedNode_stored {e : List Byte} {kind : NodeKind} (length : e.length = 10)
    (known : nodeKindOf (byteAt e 2).toNat = some kind) (fits : roleFits (storedNode e kind) = true) :
    NodeStored e (storedNode e kind) := by
  have code := nodeKindOf_some known
  obtain ⟨lane, poolEnd, position⟩ := roleFits_storedNode.mp fits
  have latency : field e 6 2 = 256 * (byteAt e 6).toNat + (byteAt e 7).toNat := field_two e 6 (by omega)
  unfold NodeStored
  rw [← code]
  refine ⟨rfl, rfl, ?_, ?_, ?_, congrArg (min 2000) latency, ?_, ?_, rfl⟩
  · cases kind <;> simp [storedNode, needsLane, nodeKindCode] at lane ⊢ <;> exact laneOf_low lane
  · cases kind <;> simp [storedNode, nodeKindCode] at poolEnd ⊢ <;> exact poolEndOf_low poolEnd
  · cases kind <;> simp [storedNode, nodeKindCode] at position ⊢
    exact if_pos position
  · cases kind <;> simp [storedNode, nodeKindCode]
  · cases kind <;> simp [storedNode, nodeKindCode]

theorem nodeWrite_emptied {s : State} {i : Fin 64} {e : List Byte} (empty : byteAt e 0 = 0) :
    nodeWrite s i e = some none := if_pos empty

theorem nodeWrite_accepted {s : State} {i : Fin 64} {e : List Byte} {kind : NodeKind} (loads : byteAt e 0 ≠ 0)
    (station : stationFits s i (byteAt e 1) = true) (known : nodeKindOf (byteAt e 2).toNat = some kind)
    (fits : roleFits (storedNode e kind) = true) : nodeWrite s i e = some (some ⟨storedNode e kind, freshRuntime⟩) := by
  unfold nodeWrite
  rw [if_neg loads, if_neg (not_not_intro station), known]
  exact if_pos fits

theorem nodeWrite_refused {s : State} {i : Fin 64} {e : List Byte} (loads : byteAt e 0 ≠ 0) (refused : ¬ NodeAccepted s i e) :
    nodeWrite s i e = none := by
  unfold nodeWrite
  rw [if_neg loads]
  by_cases station : stationFits s i (byteAt e 1) = true
  · rw [if_neg (not_not_intro station)]
    cases known : nodeKindOf (byteAt e 2).toNat with
    | none => rfl
    | some kind => exact if_neg fun fits => refused (nodeAccepted_iff.mpr ⟨station, kind, known, fits⟩)
  · exact if_pos station

theorem nodeWrite_of_tables {s t : State} (nodes : t.nodes = s.nodes) (settings : t.settings = s.settings) (i : Fin 64)
    (e : List Byte) : nodeWrite t i e = nodeWrite s i e := by
  unfold nodeWrite stationFits
  rw [nodes, settings]

theorem writeNode_at {s : State} {i : Fin 64} {e : List Byte} {entry : Option Node} (written : nodeWrite s i e = some entry) :
    writeNode i.val e s = some (setNodesReporting (s.nodes.set i entry) s) := by
  unfold writeNode
  rw [dif_pos i.isLt, written]
  rfl

theorem writeNode_none {s : State} {i : Fin 64} {e : List Byte} (refused : nodeWrite s i e = none) :
    writeNode i.val e s = none := by
  unfold writeNode
  rw [dif_pos i.isLt, refused]
  rfl

/-- A node entry that stands afresh, or none, is not ABSENT: NODE_LOST's condition can only end. -/
theorem nodeLost_set_fresh {nodes : NodeTable} {i : Fin 64} {entry : Option Node}
    (fresh : ∀ n, entry = some n → n.run.presence ≠ .absent) (lost : nodeLost (nodes.set i entry) = true) :
    nodeLost nodes = true := by
  obtain ⟨j, m, here, absent⟩ := nodeLost_iff.mp lost
  rw [set_entry] at here
  split at here
  · exact absurd absent (fresh m here)
  · exact nodeLost_iff.mpr ⟨j, m, here, absent⟩

theorem setNodesReporting_fresh {s : State} {nodes : NodeTable} (is : s.nodes = nodes) {i : Fin 64} {entry : Option Node}
    (fresh : ∀ n, entry = some n → n.run.presence ≠ .absent) : setNodesReporting (nodes.set i entry) s =
      if nodeLost nodes = true ∧ ¬ nodeLost (nodes.set i entry) = true then
        setStatus .nodeLost false (s.setNodes (nodes.set i entry))
      else s.setNodes (nodes.set i entry) := by
  subst is
  have ends := nodeLost_set_fresh (nodes := s.nodes) (i := i) fresh
  unfold setNodesReporting
  cases before : nodeLost s.nodes <;> cases after : nodeLost (s.nodes.set i entry) <;> simp_all

/-- Settles O42: a written entry is fresh or none, so that NODE_LOST can only end; a refused one leaves the chain's own
traces alone. -/
theorem nodeWriteRule : Obligations.NodeWriteRule := by
  intro now src tag i e s room served place closed length state v lost Answered Stands
  have index : (byteOf i.val).toNat = i.val := byteOf_toNat (by omega)
  have idle : tableBusy s .nodes = false := by
    rcases state with is | is | is <;> simp [tableBusy, is]
  let u := oneOpened now s .nodes i.val
  have nodes : u.nodes = s.nodes := by
    change (ownerTurn now s).nodes = s.nodes
    simp
  have settings : u.settings = s.settings := ownerTurn_settings now s
  have some' : e ≠ [] := by rintro rfl; exact nomatch length
  have within : (byteOf i.val).toNat < tableSize .nodes := by
    rw [index]
    exact i.isLt
  have stands (entry : Option Node) (fresh : ∀ n, entry = some n → n.run.presence ≠ .absent)
      (written : nodeWrite s i e = some entry) : Stands entry := by
    have written' (b : BoardTransmitter) : nodeWrite (u.setBoard b) i e = some entry :=
      (nodeWrite_of_tables nodes settings i e).trans written
    have told (w : State) (after : ∀ b, setNodesReporting (s.nodes.set i entry) (u.setBoard b) = w.setBoard b)
        (t : State) (closed' : closeChain w = t) (board : t.board = (advanceTo now s).board)
        (station : t.settings = s.settings) : Answered t [1, 0, 255, 255] := by
      have writes (b : BoardTransmitter) : writeEntry .nodes (byteOf i.val).toNat e
          ((oneOpened now s .nodes (byteOf i.val).toNat).setBoard b) = some (w.setBoard b) := by
        rw [index]
        refine (writeNode_at (written' b)).trans (congrArg some ?_)
        rw [show (u.setBoard b).nodes = s.nodes from nodes]
        exact after b
      subst closed'
      have load := tload_written (now := now) (src := src) (tag := tag) served place closed idle length some' within writes board
      rw [response_of_settings station] at load
      exact load
    have fresh' (b : BoardTransmitter) := setNodesReporting_fresh (s := u.setBoard b) nodes (i := i) fresh
    have was : nodeLost s.nodes = true ↔ lost s.nodes := nodeLost_iff
    have is : nodeLost (s.nodes.set i entry) = true ↔ lost (s.nodes.set i entry) := nodeLost_iff
    simp only [was, is] at fresh'
    have done : closeChain (u.setNodes (s.nodes.set i entry)) = v.setNodes (s.nodes.set i entry) := by
      rw [closeChain_setNodes, closeChain_oneOpened served.2]
    refine ⟨fun ends => ?_, fun stays => ?_⟩
    · refine told (setStatus .nodeLost false (u.setNodes (s.nodes.set i entry))) (fun b => (fresh' b).trans (if_pos ends)) _
        ?_ (ownerTurn_board now s) settings
      rw [closeChain_setStatus, done]
    · exact told (u.setNodes (s.nodes.set i entry)) (fun b => (fresh' b).trans (if_neg stays)) _ done
        (ownerTurn_board now s) settings
  refine ⟨fun empty => stands none nofun (nodeWrite_emptied empty), fun loads accepted => ?_, fun loads refused => ?_⟩
  · obtain ⟨station, kind, known, fits⟩ := nodeAccepted_iff.mp accepted
    exact ⟨storedNode e kind, storedNode_stored length known fits, stands _ (by rintro n ⟨⟩; exact nofun)
      (nodeWrite_accepted loads station known fits)⟩
  · have refuses (b : BoardTransmitter) : writeEntry .nodes (byteOf i.val).toNat e ((oneOpened now s .nodes (byteOf i.val).toNat).setBoard b)
        = none := by
      rw [index]
      exact writeNode_none ((nodeWrite_of_tables nodes settings i e).trans (nodeWrite_refused loads refused))
    have refusal := tload_refused (now := now) (src := src) (tag := tag) served place closed idle length some' within refuses
    rw [response_of_settings (s := s) (by exact settings)] at refusal
    exact refusal

/-! ### Settings (R160) -/

theorem settingWrite_of_tables {s t : State} (nodes : t.nodes = s.nodes) (settings : t.settings = s.settings) (index : Nat)
    (b : Byte) : settingWrite t index b = settingWrite s index b := by
  unfold settingWrite
  rw [nodes, settings]

/-- Where CONSOLE owns the channel and the home timer is stopped, a settings write leaves the channel's timers alone. -/
theorem followMode_console {s : State} (owner : s.orders.owner = .console) (home : s.orders.home = none) (index : Nat) :
    followMode index s = s := by
  unfold followMode
  split
  · rfl
  · split
    · rw [← home]
      rfl
    · exact if_neg fun starts => nomatch (owner.symm.trans starts.2.1 : Side.console = .panel)

theorem closeChain_setSettings {s : State} (owner : s.orders.owner = .console) (x : Settings) :
    closeChain (s.setSettings x) = (closeChain s).setSettings x := by
  rw [closeChain_console owner, closeChain_console (s := s.setSettings x) owner]
  rfl

theorem settingWrite_direction {s : State} {b : Byte} (m : Fin 4) : settingWrite s (3 + m.val) b =
    if b.toNat ≤ 1 then some { s.settings with toConsole := s.settings.toConsole.set m (b == 1) } else none := by
  match m with
  | 0 => rfl
  | 1 => rfl
  | 2 => rfl
  | 3 => rfl

theorem settingWrite_high {s : State} {b : Byte} (high : 1 < b.toNat) {index : Nat} (low : 1 ≤ index) (known : index ≤ 6) :
    settingWrite s index b = none := by
  have tooHigh : ¬ b.toNat ≤ 1 := Nat.not_le.mpr high
  have notZero : b ≠ 0 := by rintro rfl; exact nomatch high
  have notOne : b ≠ 1 := by rintro rfl; exact absurd high (by decide)
  match index, low, known with
  | 1, _, _ => exact (if_neg notZero).trans (if_neg notOne)
  | 2, _, _ | 3, _, _ | 4, _, _ | 5, _, _ | 6, _, _ => exact if_neg tooHigh

theorem settingWrite_station_eq {s : State} {b : Byte} : settingWrite s 0 b =
    if isStation b = true ∧ ¬ ∃ (i : Fin 64) (n : Node), s.nodes[i] = some n ∧ n.entry.station = b then
      some { s.settings with station := b }
    else none := by
  have free : (findNode s.nodes b).isNone = true ↔
      ¬ ∃ (i : Fin 64) (n : Node), s.nodes[i] = some n ∧ n.entry.station = b := by
    rw [Option.isNone_iff_eq_none, findNode_none]
    simp only [not_exists, not_and]
  unfold settingWrite
  simp only [free, isStation, Bool.and_eq_true, decide_eq_true_eq, and_assoc]

/-- Settles O44: each setting is written or refused by `settingWrite` alone, the home timer being stopped under the chain. -/
theorem settingsWriteRule : Obligations.SettingsWriteRule := by
  intro now src tag value s room served place closed v Answered held
  have nodes (index : Nat) : (oneOpened now s .settings index).nodes = s.nodes := by
    change (ownerTurn now s).nodes = s.nodes
    simp
  have settings (index : Nat) : (oneOpened now s .settings index).settings = s.settings := ownerTurn_settings now s
  have accepted (index : Byte) (t : Settings) (within : index.toNat < 7) (written : settingWrite s index.toNat value = some t) :
      Answered index (v.setSettings t) [1, 0, 255, 255] := by
    have done : closeChain ((oneOpened now s .settings index.toNat).setSettings t) = v.setSettings t := by
      rw [closeChain_setSettings (oneOpened_owner served.2 _ _), closeChain_oneOpened served.2]
    have writes (b : BoardTransmitter) : writeEntry .settings index.toNat [value]
        ((oneOpened now s .settings index.toNat).setBoard b) =
          some (((oneOpened now s .settings index.toNat).setSettings t).setBoard b) := by
      have here := (settingWrite_of_tables (t := (oneOpened now s .settings index.toNat).setBoard b) (nodes index.toNat)
        (settings index.toNat) index.toNat value).trans written
      refine (congrArg (Option.map _) here).trans (congrArg some ?_)
      exact followMode_console (s := ((oneOpened now s .settings index.toNat).setBoard b).setSettings t)
        (oneOpened_owner served.2 _ _) rfl index.toNat
    have load := tload_written (now := now) (src := src) (tag := tag) served place closed rfl rfl (by simp) within writes
      (done ▸ ownerTurn_board now s)
    rw [done] at load
    exact load
  have refused (index : Byte) (within : index.toNat < 7) (refuses : settingWrite s index.toNat value = none) :
      Answered index v [0, 1, index, 255] := by
    refine tload_refused (code := .settings) served place closed rfl rfl (by simp) within fun b => ?_
    have here := (settingWrite_of_tables (t := (oneOpened now s .settings index.toNat).setBoard b) (nodes index.toNat)
      (settings index.toNat) index.toNat value).trans refuses
    exact congrArg (Option.map _) here
  refine ⟨fun station free => accepted 0 _ (by decide) (settingWrite_station_eq.trans (if_pos ⟨station, free⟩)),
    fun unfit => refused 0 (by decide) (settingWrite_station_eq.trans (if_neg ?_)), fun is => ?_, fun is => ?_,
    fun low => ⟨accepted 2 _ (by decide) (if_pos low), fun m => ?_⟩,
    fun high index low known => refused index (Nat.lt_succ_of_le known) (settingWrite_high high low known)⟩
  · rintro ⟨station, free⟩
    rcases unfit with notStation | isHeld
    · exact nomatch notStation.symm.trans station
    · exact free isHeld
  · subst is
    exact accepted 1 _ (by decide) rfl
  · subst is
    exact accepted 1 _ (by decide) rfl
  · have index : (byteOf (3 + m.val)).toNat = 3 + m.val := byteOf_toNat (by omega)
    refine accepted (byteOf (3 + m.val)) _ (by omega) ?_
    rw [index, settingWrite_direction, if_pos low]

end Sys2Proof.Machine
end
section
/-! The lamps: what one lane's LAMPs leave of the records and of the deck command queue, and a round over the lanes
(R145, R146, R148). -/

namespace Sys2Proof.Machine

/-! ### A move of lamps -/

/-- The state with other lamp records and another deck command queue. -/
def lampsAs (s : State) (records : Vector LampRecord 10) (queue : List DeckEntry) : State :=
  (s.setLamps { s.lamps with records := records }).setDeck { s.deck with queue := queue }

/-- From `s` to `t` the lamps of some lanes have moved: their records, and LAMPs of theirs in the deck command queue, for
their lamp stations and the stations recorded for them. -/
structure LampsMoved (lanes : List Lane) (s t : State) : Prop where
  frame : t = lampsAs s t.lamps.records t.deck.queue
  others : ∀ lane : Lane, lane ∉ lanes → t.lamps.records[lane] = s.lamps.records[lane]
  assigned : ∀ lane : Lane, t.lamps.records[lane].assignment = s.lamps.records[lane].assignment
  added : ∀ e ∈ t.deck.queue, e ∈ s.deck.queue ∨ ∃ lane ∈ lanes, e.origin = .lamp lane
  kept : ∀ e ∈ s.deck.queue, (∀ lane ∈ lanes, lampStation s lane ≠ some e.telegram.dest
    ∧ s.lamps.records[lane].recorded ≠ some e.telegram.dest) → e ∈ t.deck.queue
  rest : (t.deck.queue.filter fun e => !isLamp e) = s.deck.queue.filter fun e => !isLamp e

theorem LampsMoved.refl (lanes : List Lane) (s : State) : LampsMoved lanes s s where
  frame := rfl
  others := fun _ _ => rfl
  assigned := fun _ => rfl
  added := fun _ mem => .inl mem
  kept := fun _ mem _ => mem
  rest := rfl

theorem LampsMoved.lampStation {lanes : List Lane} {s t : State} (h : LampsMoved lanes s t) (lane : Lane) :
    lampStation t lane = lampStation s lane := by
  rw [h.frame]
  rfl

theorem LampsMoved.trans {a b : List Lane} {s t u : State} (h : LampsMoved a s t) (k : LampsMoved b t u)
    (recorded : ∀ lane ∈ b, t.lamps.records[lane].recorded = s.lamps.records[lane].recorded)
    {c : List Lane} (left : a ⊆ c) (right : b ⊆ c) : LampsMoved c s u where
  frame := by
    rw [k.frame, h.frame]
    rfl
  others lane outside := (k.others lane (mt (@right lane) outside)).trans (h.others lane (mt (@left lane) outside))
  assigned lane := (k.assigned lane).trans (h.assigned lane)
  added e mem := by
    rcases k.added e mem with before | ⟨lane, among, is⟩
    · rcases h.added e before with first | ⟨lane, among, is⟩
      · exact .inl first
      · exact .inr ⟨lane, left among, is⟩
    · exact .inr ⟨lane, right among, is⟩
  kept e mem away := by
    refine k.kept e (h.kept e mem fun lane among => away lane (left among)) fun lane among => ?_
    rw [h.lampStation, recorded lane among]
    exact away lane (right among)
  rest := k.rest.trans h.rest

/-- The lanes of a second move are others than those of the first. -/
theorem LampsMoved.trans_disjoint {a b : List Lane} {s t u : State} (h : LampsMoved a s t) (k : LampsMoved b t u)
    (disjoint : ∀ lane ∈ b, lane ∉ a) : LampsMoved (a ++ b) s u :=
  h.trans k (fun lane among => congrArg LampRecord.recorded (h.others lane (disjoint lane among)))
    (List.subset_append_left a b) (List.subset_append_right a b)

/-! ### One lane -/

theorem mem_withLamp_self (e : DeckEntry) (queue : List DeckEntry) : e ∈ withLamp e queue := by
  unfold withLamp
  split
  · next queued =>
    obtain ⟨q, mem, lamp⟩ := List.any_eq_true.mp queued
    exact List.mem_map.mpr ⟨q, mem, if_pos lamp⟩
  · exact List.mem_append_right _ (List.mem_singleton_self e)

theorem mem_withLamp_of_other {e q : DeckEntry} {queue : List DeckEntry} (mem : q ∈ queue)
    (other : isLampFor e.telegram.dest q = false) : q ∈ withLamp e queue := by
  unfold withLamp
  split
  · exact List.mem_map.mpr ⟨q, mem, if_neg (by simp [other])⟩
  · exact List.mem_append_left _ mem

/-- A LAMP leaves the telegrams that are no LAMPs. -/
theorem withLamp_rest {e : DeckEntry} (lamp : isLamp e = true) (queue : List DeckEntry) :
    ((withLamp e queue).filter fun q => !isLamp q) = queue.filter fun q => !isLamp q := by
  unfold withLamp
  split
  · next found =>
    clear found
    induction queue with
    | nil => rfl
    | cons q queue ih =>
      rw [List.map_cons]
      split
      · next here =>
        have old : isLamp q = true := (isLampFor_iff.mp here).1
        rw [List.filter_cons_of_neg (by simp [lamp]), List.filter_cons_of_neg (by simp [old]), ih]
      · rw [List.filter_cons, List.filter_cons, ih]
  · simp [lamp]

/-- Another record of a lane, with the same assignment. -/
theorem setLamp_moved {lane : Lane} {r : LampRecord} {s : State}
    (assignment : r.assignment = s.lamps.records[lane].assignment) : LampsMoved [lane] s (setLamp lane r s) where
  frame := rfl
  others o outside := by
    rw [setLamp_record, if_neg]
    rintro rfl
    exact outside (List.mem_singleton_self _)
  assigned o := by
    rw [setLamp_record]
    split
    · next same => rw [assignment, same]
    · rfl
  added _ mem := .inl mem
  kept _ mem _ := mem
  rest := rfl

theorem produceLamp_record (lane other : Lane) (station : Byte) (lit : Bool) (s : State) :
    (produceLamp lane station lit s).lamps.records[other] =
      if lane = other then { s.lamps.records[lane] with produced := lit, recorded := some station }
      else s.lamps.records[other] := by
  rw [produceLamp_eq]
  exact setLamp_record lane other _ s

theorem produceLamp_queue (lane : Lane) (station : Byte) (lit : Bool) (s : State) :
    (produceLamp lane station lit s).deck.queue = withLamp ⟨.lamp lane, lampTelegram s station lit⟩ s.deck.queue := by
  rw [produceLamp_eq]
  rfl

/-- A LAMP for the lane's lamp station or for the station recorded for it. -/
theorem produceLamp_moved {lane : Lane} {station : Byte} (lit : Bool) {s : State}
    (aims : lampStation s lane = some station ∨ s.lamps.records[lane].recorded = some station) :
    LampsMoved [lane] s (produceLamp lane station lit s) where
  frame := by
    rw [produceLamp_eq]
    rfl
  others o outside := by
    rw [produceLamp_record, if_neg]
    rintro rfl
    exact outside (List.mem_singleton_self _)
  assigned o := by
    rw [produceLamp_record]
    split
    · next same => rw [same]
    · rfl
  added e mem := by
    rw [produceLamp_queue] at mem
    rcases mem_withLamp mem with rfl | ⟨queued, _⟩
    · exact .inr ⟨lane, List.mem_singleton_self lane, rfl⟩
    · exact .inl queued
  kept e mem away := by
    rw [produceLamp_queue]
    refine mem_withLamp_of_other mem (Bool.eq_false_iff.mpr fun lamp => ?_)
    have dest : e.telegram.dest = station := (isLampFor_iff.mp lamp).2
    obtain ⟨notAimed, notRecorded⟩ := away lane (List.mem_singleton_self lane)
    rcases aims with aimed | recorded
    · exact notAimed (dest ▸ aimed)
    · exact notRecorded (dest ▸ recorded)
  rest := by
    rw [produceLamp_queue]
    exact withLamp_rest (isLamp_iff.mpr ⟨lane, rfl⟩) _

theorem darkenLamp_dark {lane : Lane} {s : State} (dark : s.lamps.records[lane].produced = false) :
    darkenLamp lane s = s := by
  simp [darkenLamp, show s.lamps.records[lane.val].produced = false from dark]

theorem darkenLamp_lit {lane : Lane} {station : Byte} {s : State} (lit : s.lamps.records[lane].produced = true)
    (recorded : s.lamps.records[lane].recorded = some station) : darkenLamp lane s = produceLamp lane station false s := by
  unfold darkenLamp
  dsimp only
  rw [if_pos lit, recorded]

theorem darkenLamp_unrecorded {lane : Lane} {s : State} (lit : s.lamps.records[lane].produced = true)
    (recorded : s.lamps.records[lane].recorded = none) :
    darkenLamp lane s = setLamp lane { s.lamps.records[lane] with produced := false } s := by
  unfold darkenLamp
  dsimp only
  rw [if_pos lit, recorded]

theorem darkenLamp_moved (lane : Lane) (s : State) : LampsMoved [lane] s (darkenLamp lane s) := by
  cases lit : s.lamps.records[lane].produced with
  | false => rw [darkenLamp_dark lit]; exact .refl _ s
  | true =>
    cases recorded : s.lamps.records[lane].recorded with
    | none => rw [darkenLamp_unrecorded lit recorded]; exact setLamp_moved rfl
    | some station => rw [darkenLamp_lit lit recorded]; exact produceLamp_moved false (.inr recorded)

/-- Darkening a lane's lamp leaves its record but for the produced state. -/
theorem darkenLamp_record (lane other : Lane) (s : State) : (darkenLamp lane s).lamps.records[other] =
    if lane = other then { s.lamps.records[lane] with produced := false } else s.lamps.records[other] := by
  cases lit : s.lamps.records[lane].produced with
  | false =>
    rw [darkenLamp_dark lit]
    split
    · next same => subst same; rw [← lit]
    · rfl
  | true =>
    cases recorded : s.lamps.records[lane].recorded with
    | none => rw [darkenLamp_unrecorded lit recorded, setLamp_record]
    | some station => rw [darkenLamp_lit lit recorded, produceLamp_record, ← recorded]

theorem leaveOldLamp_moved (lane : Lane) (s : State) : LampsMoved [lane] s (leaveOldLamp lane s) := by
  unfold leaveOldLamp
  split
  · exact .refl _ s
  · exact darkenLamp_moved lane s

theorem leaveOldLamp_recorded (lane other : Lane) (s : State) :
    (leaveOldLamp lane s).lamps.records[other].recorded = s.lamps.records[other].recorded := by
  unfold leaveOldLamp
  split
  · rfl
  · rw [darkenLamp_record]
    split
    · next same => rw [same]
    · rfl

theorem followPattern_moved (lane : Lane) (s : State) : LampsMoved [lane] s (followPattern lane s) := by
  unfold followPattern
  split
  · exact .refl _ s
  · next station aimed =>
    split
    · exact produceLamp_moved _ (.inl aimed)
    · exact .refl _ s

theorem evaluateLane_moved (lane : Lane) (s : State) : LampsMoved [lane] s (evaluateLane lane s) :=
  (leaveOldLamp_moved lane s).trans (followPattern_moved lane _) (fun o _ => leaveOldLamp_recorded lane o s)
    (List.Subset.refl _) (List.Subset.refl _)

/-! ### A round over the lanes -/

theorem foldl_moved {f : Lane → State → State} (moves : ∀ lane s, LampsMoved [lane] s (f lane s)) :
    ∀ (lanes : List Lane) (s : State), lanes.Nodup → LampsMoved lanes s (lanes.foldl (fun s lane => f lane s) s)
  | [], s, _ => .refl _ s
  | lane :: lanes, s, once => by
    obtain ⟨away, once⟩ := List.nodup_cons.mp once
    exact (moves lane s).trans_disjoint (foldl_moved moves lanes (f lane s) once)
      fun o among is => away (List.mem_singleton.mp is ▸ among)

/-- A round of moves, seen from one lane: those before it and those behind it are of other lanes. -/
theorem round_at {f : Lane → State → State} (moves : ∀ lane s, LampsMoved [lane] s (f lane s)) (lane : Lane) (s : State) :
    ∃ (before behind : List Lane) (x : State), LampsMoved before s x ∧ lane ∉ before ∧ lane ∉ behind
      ∧ (∀ o ∈ behind, o ∉ before) ∧ LampsMoved behind (f lane x) (allLanes.foldl (fun s lane => f lane s) s) := by
  obtain ⟨before, behind, split⟩ := List.append_of_mem (List.mem_finRange lane)
  have once : (before ++ lane :: behind).Nodup := split ▸ List.nodup_finRange 10
  obtain ⟨first, second, apart⟩ := List.nodup_append.mp once
  obtain ⟨away, second⟩ := List.nodup_cons.mp second
  refine ⟨before, behind, before.foldl (fun s lane => f lane s) s, foldl_moved moves before s first,
    fun mem => apart lane mem lane List.mem_cons_self rfl, away,
    fun o among mem => apart o mem o (List.mem_cons_of_mem _ among) rfl, ?_⟩
  have whole : allLanes.foldl (fun s lane => f lane s) s =
      behind.foldl (fun s lane => f lane s) (f lane (before.foldl (fun s lane => f lane s) s)) := by
    rw [allLanes, split, List.foldl_append, List.foldl_cons]
  rw [whole]
  exact foldl_moved moves behind _ second

theorem foldl_still {f : Lane → State → State} {s : State} (still : ∀ lane, f lane s = s) (lanes : List Lane) :
    lanes.foldl (fun s lane => f lane s) s = s := by
  induction lanes with
  | nil => rfl
  | cons lane lanes ih => rw [List.foldl_cons, still, ih]

/-- What commutes with another board queue, lane by lane, does so over a round. -/
theorem foldl_setBoard {f : Lane → State → State} {b : BoardTransmitter}
    (commutes : ∀ lane s, f lane (s.setBoard b) = (f lane s).setBoard b) (lanes : List Lane) (s : State) :
    lanes.foldl (fun s lane => f lane s) (s.setBoard b) = (lanes.foldl (fun s lane => f lane s) s).setBoard b := by
  induction lanes generalizing s with
  | nil => rfl
  | cons lane lanes ih => rw [List.foldl_cons, commutes, ih, List.foldl_cons]

theorem darkenLamp_setBoard (b : BoardTransmitter) (lane : Lane) (s : State) :
    darkenLamp lane (s.setBoard b) = (darkenLamp lane s).setBoard b := by
  cases lit : s.lamps.records[lane].produced with
  | false => rw [darkenLamp_dark lit, darkenLamp_dark (s := s.setBoard b) lit]
  | true =>
    cases recorded : s.lamps.records[lane].recorded with
    | none => rw [darkenLamp_unrecorded lit recorded, darkenLamp_unrecorded (s := s.setBoard b) lit recorded]; rfl
    | some station =>
      rw [darkenLamp_lit lit recorded, darkenLamp_lit (s := s.setBoard b) lit recorded, produceLamp_eq, produceLamp_eq]
      rfl

theorem evaluateLane_setBoard (b : BoardTransmitter) (lane : Lane) (s : State) :
    evaluateLane lane (s.setBoard b) = (evaluateLane lane s).setBoard b := by
  have left : leaveOldLamp lane (s.setBoard b) = (leaveOldLamp lane s).setBoard b := by
    unfold leaveOldLamp
    rw [darkenLamp_setBoard]
    change (if lampStation s lane = s.lamps.records[lane].recorded then _ else _) = _
    split <;> rfl
  unfold evaluateLane
  rw [left]
  generalize leaveOldLamp lane s = u
  unfold followPattern
  change (match lampStation u lane with | none => _ | some station => _) = _
  cases lampStation u lane with
  | none => rfl
  | some station =>
    dsimp only
    rw [produceLamp_eq, produceLamp_eq]
    change (if (wantedLit u lane != u.lamps.records[lane].produced && !lampHeldBack u lane station) = true then _ else _) = _
    split <;> rfl

/-! ### A lane evaluated (R146) -/

theorem isPadOf_lane {lane : Lane} {finish : PoolEnd} {n : Node} (pad : isPadOf lane finish (some n) = true) :
    n.entry.lane = some lane := by
  simp only [isPadOf, Bool.and_eq_true, beq_iff_eq] at pad
  exact pad.1.2

theorem lampStation_some {s : State} {lane : Lane} {station : Byte} (aimed : lampStation s lane = some station) :
    ∃ (i : Fin 64) (n : Node), s.nodes[i] = some n ∧ n.entry.lane = some lane ∧ n.entry.station = station := by
  unfold lampStation at aimed
  split at aimed
  · exact nomatch aimed
  · split at aimed
    · next i found =>
      have pad := List.find?_some found
      obtain ⟨n, here, is⟩ := Option.map_eq_some_iff.mp aimed
      rw [here] at pad
      exact ⟨i, n, here, isPadOf_lane pad, is⟩
    · exact nomatch aimed

/-- Two lanes have no lamp station in common. -/
theorem lampStation_injective {s : State} (law : NodeLaw s) {a b : Lane} {station : Byte}
    (first : lampStation s a = some station) (second : lampStation s b = some station) : a = b := by
  obtain ⟨i, n, here, lane, is⟩ := lampStation_some first
  obtain ⟨j, m, there, other, same⟩ := lampStation_some second
  obtain rfl := law.2.1 i j n m here there (is.trans same.symm)
  obtain rfl := Option.some.inj (here.symm.trans there)
  exact Option.some.inj (lane.symm.trans other)

theorem wantedLit_of_record {s t : State} {lane : Lane} (record : t.lamps.records[lane] = s.lamps.records[lane])
    (patterns : t.lamps.patterns = s.lamps.patterns) : wantedLit t lane = wantedLit s lane := by
  unfold wantedLit
  rw [record, patterns]

theorem lampHeldBack_false {s : State} {lane : Lane} {station : Byte} : lampHeldBack s lane station = false ↔
    ∀ e ∈ s.deck.queue, e.origin = .lamp lane → e.telegram.dest = station := by
  simp [lampHeldBack, isLampOf]

/-- An evaluation where no old lamp is left and no LAMP waits for another station: the lane stands as it wants, and a change
is queued. -/
theorem evaluateLane_here {s : State} {lane : Lane} {station : Byte} (aimed : lampStation s lane = some station)
    (kept : s.lamps.records[lane].recorded = some station ∨ s.lamps.records[lane].produced = false)
    (unheld : ∀ e ∈ s.deck.queue, e.origin = .lamp lane → e.telegram.dest = station) :
    evaluateLane lane s = if wantedLit s lane = s.lamps.records[lane].produced then s
      else produceLamp lane station (wantedLit s lane) s := by
  have stays : leaveOldLamp lane s = s := by
    unfold leaveOldLamp
    rcases kept with recorded | dark
    · exact if_pos (aimed.trans recorded.symm)
    · split
      · rfl
      · exact darkenLamp_dark dark
  unfold evaluateLane
  rw [stays]
  unfold followPattern
  rw [aimed]
  dsimp only
  rw [lampHeldBack_false.mpr unheld]
  by_cases same : wantedLit s lane = s.lamps.records[lane].produced
  · rw [if_pos same, if_neg (by simpa using same)]
  · rw [if_neg same, if_pos (by simpa using same)]

/-- A lane evaluated among moves of other lanes' lamps stands as LampEvaluated says. -/
theorem lampEvaluated_among {s x t : State} {lane : Lane} {before behind : List Lane} (first : LampsMoved before s x)
    (notBefore : lane ∉ before) (notBehind : lane ∉ behind) (apart : ∀ o ∈ behind, o ∉ before)
    (last : LampsMoved behind (evaluateLane lane x) t) :
    LampEvaluated s t lane (wantedLit s lane) := by
  have record : x.lamps.records[lane] = s.lamps.records[lane] := first.others lane notBefore
  have patterns : x.lamps.patterns = s.lamps.patterns := by rw [first.frame]; rfl
  have settings : x.settings = s.settings := by rw [first.frame]; rfl
  have wants : wantedLit x lane = wantedLit s lane := wantedLit_of_record record patterns
  intro station aimed kept unheld
  have here := evaluateLane_here (s := x) ((first.lampStation lane).trans aimed) (record ▸ kept) (by
    intro e mem is
    rcases first.added e mem with queued | ⟨o, among, other⟩
    · exact unheld e queued is
    · obtain rfl : lane = o := DeckClass.lamp.inj (is.symm.trans other)
      exact absurd among notBefore)
  rw [wants, record] at here
  have final : t.lamps.records[lane] = (evaluateLane lane x).lamps.records[lane] := last.others lane notBehind
  rw [final, here]
  by_cases same : wantedLit s lane = s.lamps.records[lane].produced
  · rw [if_pos same]
    exact ⟨by rw [record, same], fun _ changes => absurd same changes⟩
  · rw [if_neg same, produceLamp_record, if_pos rfl]
    refine ⟨rfl, fun law _ alone => ⟨rfl, ?_⟩⟩
    refine last.kept _ ?_ fun o among => ?_
    · rw [here, if_neg same, produceLamp_queue]
      have lamp : lampTelegram x station (wantedLit s lane) =
          ⟨station, s.settings.station, kindLamp, [if wantedLit s lane then 1 else 0]⟩ := by
        unfold lampTelegram
        rw [settings, markByte_eq]
      rw [← lamp]
      exact mem_withLamp_self _ _
    · have other : o ≠ lane := by
        rintro rfl
        exact notBehind among
      have moved : LampsMoved (before ++ [lane]) s (evaluateLane lane x) :=
        first.trans_disjoint (evaluateLane_moved lane x) fun l is => List.mem_singleton.mp is ▸ notBefore
      refine ⟨fun aims => other ?_, ?_⟩
      · rw [moved.lampStation] at aims
        exact lampStation_injective law aims aimed
      · have untouched : (evaluateLane lane x).lamps.records[o] = s.lamps.records[o] :=
          moved.others o fun mem => (List.mem_append.mp mem).elim (apart o among) fun is => other (List.mem_singleton.mp is)
        rw [untouched]
        exact alone o other

/-! ### The lanes assigned to patterns (R142 to R144) -/

/-- One lane's turn when the lanes of some patterns are evaluated. -/
def evaluateDue (due : Fin 3 → Bool) (lane : Lane) (s : State) : State :=
  if s.lamps.records[lane].assignment.any due then evaluateLane lane s else s

theorem evaluateAssigned_eq (due : Fin 3 → Bool) (s : State) :
    evaluateAssigned due s = allLanes.foldl (fun s lane => evaluateDue due lane s) s := by
  unfold evaluateAssigned
  congr 1
  funext u lane
  unfold evaluateDue
  cases u.lamps.records[lane].assignment <;> rfl

theorem evaluateDue_moved (due : Fin 3 → Bool) (lane : Lane) (s : State) : LampsMoved [lane] s (evaluateDue due lane s) := by
  unfold evaluateDue
  split
  · exact evaluateLane_moved lane s
  · exact .refl _ s

theorem evaluateAssigned_moved (due : Fin 3 → Bool) (s : State) : LampsMoved allLanes s (evaluateAssigned due s) := by
  rw [evaluateAssigned_eq]
  exact foldl_moved (evaluateDue_moved due) allLanes s (List.nodup_finRange 10)

theorem evaluateAssigned_setBoard (due : Fin 3 → Bool) (s : State) (b : BoardTransmitter) :
    evaluateAssigned due (s.setBoard b) = (evaluateAssigned due s).setBoard b := by
  rw [evaluateAssigned_eq, evaluateAssigned_eq]
  refine foldl_setBoard (fun lane u => ?_) allLanes s
  unfold evaluateDue
  rw [evaluateLane_setBoard]
  change (if u.lamps.records[lane].assignment.any due = true then _ else _) = _
  split <;> rfl

theorem evaluateAssigned_none {due : Fin 3 → Bool} {s : State}
    (none : ∀ lane : Lane, s.lamps.records[lane].assignment.any due = false) : evaluateAssigned due s = s := by
  rw [evaluateAssigned_eq]
  have still (lane : Lane) : evaluateDue due lane s = s := if_neg (by rw [none lane]; exact Bool.false_ne_true)
  exact foldl_still still allLanes

/-- A lane that is due is evaluated, and no other. -/
theorem evaluateAssigned_lane (due : Fin 3 → Bool) (s : State) (lane : Lane) :
    (s.lamps.records[lane].assignment.any due = false →
        (evaluateAssigned due s).lamps.records[lane] = s.lamps.records[lane])
      ∧ (s.lamps.records[lane].assignment.any due = true →
        LampEvaluated s (evaluateAssigned due s) lane (wantedLit s lane)) := by
  obtain ⟨before, behind, x, first, notBefore, notBehind, apart, last⟩ := round_at (evaluateDue_moved due) lane s
  rw [← evaluateAssigned_eq] at last
  have record := first.others lane notBefore
  refine ⟨fun rests => ?_, fun turns => ?_⟩
  · rw [last.others lane notBehind]
    have still : evaluateDue due lane x = x := if_neg (by rw [record]; exact Bool.eq_false_iff.mp rests)
    rw [still, record]
  · have evaluated : evaluateDue due lane x = evaluateLane lane x := if_pos (by rw [record]; exact turns)
    exact lampEvaluated_among first notBefore notBehind apart (evaluated ▸ last)

/-- What an evaluation says depends on the tables alone. -/
theorem LampEvaluated.of_tables {s s' t : State} {lane : Lane} {wanted : Bool} (h : LampEvaluated s' t lane wanted)
    (stations : ∀ o, lampStation s' o = lampStation s o) (records : s'.lamps.records = s.lamps.records)
    (queue : s'.deck.queue = s.deck.queue) (settings : s'.settings = s.settings) (law : NodeLaw s → NodeLaw s') :
    LampEvaluated s t lane wanted := by
  intro station aimed kept unheld
  obtain ⟨stands, changes⟩ := h station ((stations lane).trans aimed) (records ▸ kept) (queue ▸ unheld)
  rw [records, settings] at changes
  exact ⟨stands, fun laws => changes (law laws)⟩

theorem lampStation_of_tables {s t : State} (nodes : t.nodes = s.nodes) (banks : t.banks = s.banks) (lane : Lane) :
    lampStation t lane = lampStation s lane := by
  unfold lampStation State.activeBank
  rw [nodes, banks]

theorem NodeLaw.of_tables {s t : State} (nodes : t.nodes = s.nodes) (settings : t.settings = s.settings) (h : NodeLaw s) :
    NodeLaw t := by
  unfold NodeLaw
  rw [nodes, settings]
  exact h

theorem patternLit_eq (p : Pattern) : patternLit p = Lit p.live p.phase p.force := by
  unfold patternLit Lit litAt
  cases p.force <;> simp [Bool.decide_and]

end Sys2Proof.Machine
end
section
/-! Phase steps of the lamps, writes of filters, banks and patterns, and the channel's expiries. -/

namespace Sys2Proof.Machine

/-! ### A phase step (R143, R144) -/

theorem litAt_eq (set : PatternSet) (phase : Nat) : litAt set phase = Lit set phase .none := by
  simp [litAt, Lit, Bool.decide_and]

theorem stepPattern_ends {p : Pattern} (ends : p.live.period ≤ p.phase + 1) :
    stepPattern p = { p with live := p.staged.getD p.live, staged := none, phase := 0 } :=
  if_pos (decide_eq_true ends)

theorem stepPattern_goes {p : Pattern} (goes : p.phase + 1 < p.live.period) : stepPattern p = { p with phase := p.phase + 1 } :=
  if_neg (fun ends => Nat.not_le.mpr goes (of_decide_eq_true ends))

theorem stepPattern_force (p : Pattern) : (stepPattern p).force = p.force := by
  unfold stepPattern
  split <;> rfl

theorem stepEvaluates_iff (p : Pattern) : stepEvaluates p = true ↔ p.live.period ≤ p.phase + 1 ∨
    Lit (stepPattern p).live (stepPattern p).phase .none ≠ Lit p.live p.phase .none := by
  simp [stepEvaluates, atPeriodEnd, litAt_eq]

theorem mapAll_entry {α β : Type} {n : Nat} (table : Vector α n) (f : α → β) (i : Fin n) :
    (mapAll table f)[i] = f table[i] := by
  simp [mapAll]

theorem any_some {α : Type} (due : α → Bool) (a : α) : (some a).any due = due a := rfl

theorem LampsMoved.patterns {lanes : List Lane} {s t : State} (h : LampsMoved lanes s t) :
    t.lamps.patterns = s.lamps.patterns := by
  rw [h.frame]
  rfl

theorem wantedLit_assigned {s : State} {lane : Lane} {p : Fin 3} (assigned : s.lamps.records[lane].assignment = some p) :
    wantedLit s lane = Lit s.lamps.patterns[p].live s.lamps.patterns[p].phase s.lamps.patterns[p].force := by
  unfold wantedLit
  rw [assigned]
  exact patternLit_eq _

/-- Settles O55: the patterns step first, and the lanes of those at an edge or a period end are evaluated on them. -/
theorem lampPhaseStepFollowsPatterns : Obligations.LampPhaseStepFollowsPatterns := by
  intro now s isDue u lit
  let x := u.setLamps { u.lamps with
    patterns := mapAll s.lamps.patterns stepPattern, sincePhase := u.lamps.sincePhase - 10000 }
  let due (p : Fin 3) : Bool := stepEvaluates s.lamps.patterns[p]
  have moved : LampsMoved allLanes x (evaluateAssigned due x) := evaluateAssigned_moved due x
  have pattern (p : Fin 3) : (evaluateAssigned due x).lamps.patterns[p] = stepPattern s.lamps.patterns[p] := by
    rw [moved.patterns]
    exact mapAll_entry _ _ _
  have lanes (lane : Lane) := evaluateAssigned_lane due x lane
  refine ⟨evaluateAssigned due x, congrArg Host.Outcome.next (if_pos isDue), ?frame, ?clock, fun p => ⟨fun ends => ?_,
    fun goes => ?_⟩, fun none => ?_, fun lane none => (lanes lane).1 ?_, fun lane p assigned => ?_⟩
  case frame =>
    have frame := moved.frame
    have sides : evaluateAssigned due x = (u.setLamps (evaluateAssigned due x).lamps).setDeck
        { u.deck with queue := (evaluateAssigned due x).deck.queue } := by
      generalize evaluateAssigned due x = t at frame
      rw [frame]
      rfl
    exact sides
  case clock =>
    rw [moved.frame]
    rfl
  · rw [pattern, stepPattern_ends ends]
  · rw [pattern, stepPattern_goes goes]
  · have rests (lane : Lane) : x.lamps.records[lane].assignment.any due = false := by
      rw [show x.lamps.records[lane].assignment = Option.none from none lane]
      rfl
    rw [evaluateAssigned_none rests]
    rfl
  · rw [show x.lamps.records[lane].assignment = Option.none from none]
    rfl
  · have turn : x.lamps.records[lane].assignment.any due = due p := by
      rw [show x.lamps.records[lane].assignment = some p from assigned, any_some]
    intro old new dueIs
    have is : dueIs ↔ due p = true := by
      rw [show due p = stepEvaluates old from rfl, stepEvaluates_iff]
      simp only [dueIs, new, pattern, old, lit]
    have wants : wantedLit x lane = Lit new.live new.phase old.force := by
      have stepped : new = stepPattern old := pattern p
      rw [wantedLit_assigned (p := p) (by exact assigned), stepped, ← stepPattern_force old]
      exact congrArg (fun q : Pattern => Lit q.live q.phase q.force) (mapAll_entry s.lamps.patterns stepPattern p)
    refine ⟨fun rests => (lanes lane).1 (turn.trans (Bool.eq_false_iff.mpr (mt is.mpr rests))), fun turns => ?_⟩
    rw [← wants]
    exact ((lanes lane).2 (turn.trans (is.mp turns))).of_tables (fun _ => rfl) rfl rfl rfl id

/-! ### Filter entries and the standby bank (R36, R58 to R61) -/

theorem closeChain_setLamps (s : State) (x : LampGenerator) : closeChain (s.setLamps x) = (closeChain s).setLamps x := by
  rw [closeChain_eq, closeChain_eq]
  rfl

theorem closeChain_lampsAs (s : State) (records : Vector LampRecord 10) (queue : List DeckEntry) :
    closeChain (lampsAs s records queue) = lampsAs (closeChain s) records queue := by
  rw [closeChain_eq, closeChain_eq]
  rfl

theorem closeChain_lamps (s : State) (l : LampGenerator) (d : DeckPoller) :
    closeChain ((s.setLamps l).setDeck d) = ((closeChain s).setLamps l).setDeck d := by
  rw [closeChain_eq, closeChain_eq]
  rfl

theorem tload_leaves {now : Tick} {src tag : Byte} {code : TableCode} {index : Byte} {e : List Byte} {s w t : State}
    {room : List Telegram} (served : ConsoleServed s) (place : PlaceMade s room)
    (closed : s.orders.chain = none) (idle : tableBusy s code = false) (sized : e.length = entrySize code index.toNat)
    (some' : e ≠ []) (within : index.toNat < tableSize code)
    (writes : ∀ b, writeEntry code index.toNat e ((oneOpened now s code index.toNat).setBoard b) = some (w.setBoard b))
    (closes : closeChain w = t) (board : t.board = (advanceTo now s).board) (settings : t.settings = s.settings) :
    exec (.tloadFirst now src tag ([1, byteOf (tableNumber code), index, 1] ++ e)) s =
      .next (answered t room (response s src tag .tload .ok 0 [1, 0, 255, 255])) := by
  subst closes
  rw [tload_written served place closed idle sized some' within writes board, response_of_settings settings]

theorem tload_refuses {now : Tick} {src tag : Byte} {code : TableCode} {index : Byte} {e : List Byte} {s : State}
    {room : List Telegram} (served : ConsoleServed s) (place : PlaceMade s room)
    (closed : s.orders.chain = none) (idle : tableBusy s code = false) (sized : e.length = entrySize code index.toNat)
    (some' : e ≠ []) (within : index.toNat < tableSize code)
    (refuses : ∀ b, writeEntry code index.toNat e ((oneOpened now s code index.toNat).setBoard b) = none) :
    exec (.tloadFirst now src tag ([1, byteOf (tableNumber code), index, 1] ++ e)) s =
      .next (answered (loadedTurn now s) room (response s src tag .tload .ok 0 [0, 1, index, 255])) := by
  have settings : (loadedTurn now s).settings = s.settings := ownerTurn_settings now s
  rw [tload_refused served place closed idle sized some' within refuses, response_of_settings settings]

theorem filterWrite_emptied {e : List Byte} (empty : byteAt e 0 = 0) : filterWrite e = some none := if_pos empty

theorem actionOf_code (a : FilterAction) : actionOf (actionCode a) = some a := by
  cases a <;> rfl

theorem actionOf_high {n : Nat} (high : 3 < n) : actionOf n = none := by
  obtain ⟨k, rfl⟩ : ∃ k, n = k + 4 := ⟨n - 4, by omega⟩
  rfl

theorem filterWrite_loaded {e : List Byte} (loads : byteAt e 0 ≠ 0) : filterWrite e =
    (actionOf (byteAt e 4).toNat).map fun action => some ⟨byteAt e 1, byteAt e 2, (byteAt e 3).setWidth 7, action⟩ := by
  unfold filterWrite
  rw [if_neg loads]
  cases actionOf (byteAt e 4).toNat <;> rfl

/-- The banks with another standby bank. -/
def bankStoreWith (x : BankStore) (bank : Bank) : BankStore :=
  match x.active with
  | .a => { x with b := bank }
  | .b => { x with a := bank }

theorem setStandby_store (bank : Bank) (s : State) : setStandby bank s = s.setBanks (bankStoreWith s.banks bank) := by
  unfold setStandby bankStoreWith
  rcases s.banks with ⟨a, b, active, pending⟩
  cases active <;> rfl

theorem field_four (body : List Byte) (k : Nat) (inside : k + 3 < body.length) : field body k 4 =
    65536 * (256 * (byteAt body k).toNat + (byteAt body (k + 1)).toNat)
      + (256 * (byteAt body (k + 2)).toNat + (byteAt body (k + 3)).toNat) := by
  have cut : (body.drop k).take 4 = [body[k], body[k + 1], body[k + 2], body[k + 3]] := by
    rw [List.drop_eq_getElem_cons (by omega), List.drop_eq_getElem_cons (by omega), List.drop_eq_getElem_cons (by omega),
      List.drop_eq_getElem_cons (by omega)]
    rfl
  have here (j : Nat) (low : j ≤ 3) : byteAt body (k + j) = body[k + j] := by
    rw [byteAt, List.getD_eq_getElem?_getD, List.getElem?_eq_getElem (by omega), Option.getD_some]
  rw [show byteAt body k = byteAt body (k + 0) from rfl, here 0 (by omega), here 1 (by omega), here 2 (by omega),
    here 3 (by omega), field, cut]
  simp only [number, List.foldl_cons, List.foldl_nil, Nat.add_zero]
  omega

/-- The heat head that an accepted loading write stores, its limits clamped (R58, R59). -/
theorem storedHead_eq {e : List Byte} (length : e.length = 21) :
    let wide (k : Nat) : Nat := 256 * (byteAt e k).toNat + (byteAt e (k + 1)).toNat
    storedHead e = {
      event := wide 1, heat := (byteAt e 3).toNat, lengths := (byteAt e 4).toNat, legs := (byteAt e 5).toNat
      minLength := max 5000 (min 600000 (65536 * wide 6 + wide 8))
      heatLimit := max 30 (min 3600 (wide 10)), recallWindow := min 30 (byteAt e 12).toNat
      exchangeMargin := min 200 (byteAt e 13).toNat, discrepancy := min 2000 (wide 14)
      buttonWindow := max 1 (min 30 (byteAt e 16).toNat), buttonArming := min 3600 (wide 17)
      resultHold := min 600 (wide 19) } := by
  intro wide
  have two (k : Nat) (inside : k + 1 < 21) : field e k 2 = wide k := field_two e k (length ▸ inside)
  have one (k : Nat) (inside : k < 21) : field e k 1 = (byteAt e k).toNat := field_one e k (length ▸ inside)
  have four : field e 6 4 = 65536 * wide 6 + wide 8 := field_four e 6 (by omega)
  unfold storedHead clamp
  rw [two 1, two 10, two 14, two 17, two 19, one 3, one 4, one 5, one 12, one 13, one 16, four]
  · simp only [Nat.zero_max]
  all_goals decide

theorem headWrite_emptied {e : List Byte} (empty : byteAt e 0 = 0) : headWrite e = some none := if_pos empty

theorem laneWrite_eq {e : List Byte} (length : e.length = 4) : laneWrite e =
    if byteAt e 0 = 0 then ⟨false, false, 0⟩ else ⟨true, decide (byteAt e 1 ≠ 0), byteAt e 2 ++ byteAt e 3⟩ := by
  have two : field e 2 2 = number [byteAt e 2, byteAt e 3] := by
    rw [field_two e 2 (by omega)]
    simp [number]
  unfold laneWrite
  rw [two, number_two]
  rfl

/-! ### Patterns (R142) -/

theorem patternWrite_emptied {e : List Byte} (empty : byteAt e 0 = 0) : patternWrite e = some (⟨100, 0, 0⟩, .none) :=
  if_pos empty

theorem patternWrite_loaded {e : List Byte} (length : e.length = 5) (loads : byteAt e 0 ≠ 0) : patternWrite e =
    (forceOf (byteAt e 4).toNat).map fun force =>
      (clampPattern (byteAt e 1).toNat (byteAt e 2).toNat (byteAt e 3).toNat, force) := by
  unfold patternWrite
  rw [if_neg loads, field_one e 1 (by omega), field_one e 2 (by omega), field_one e 3 (by omega)]
  cases forceOf (byteAt e 4).toNat <;> rfl

theorem forceOf_high {n : Nat} (high : 2 < n) : forceOf n = none := by
  obtain ⟨k, rfl⟩ : ∃ k, n = k + 3 := ⟨n - 3, by omega⟩
  rfl

/-- The state in which the lanes of a written pattern are evaluated. -/
def patternStaged (p : Fin 3) (set : PatternSet) (force : Force) (s : State) : State :=
  s.setLamps { s.lamps with
    patterns := s.lamps.patterns.set p { s.lamps.patterns[p] with staged := some set, force := force } }

theorem writePattern_at {p : Fin 3} {e : List Byte} {set : PatternSet} {force : Force}
    (written : patternWrite e = some (set, force)) (s : State) :
    writePattern p.val e s = some (evaluateAssigned (fun i => i.val == p.val) (patternStaged p set force s)) := by
  unfold writePattern
  rw [dif_pos p.isLt, written]
  rfl

theorem writePattern_none {p : Fin 3} {e : List Byte} (refused : patternWrite e = none) (s : State) :
    writePattern p.val e s = none := by
  unfold writePattern
  rw [dif_pos p.isLt, refused]
  rfl

theorem patterned_frame {u y t : State} {patterns : Vector Pattern 3}
    (staged : y = u.setLamps { u.lamps with patterns := patterns }) (frame : t = lampsAs y t.lamps.records t.deck.queue) :
    t = (u.setLamps { t.lamps with sincePhase := u.lamps.sincePhase }).setDeck { u.deck with queue := t.deck.queue } := by
  subst staged
  rw [frame]
  rfl

/-- What a written pattern leaves (R142, R146): the conclusion of O43's last part, on the state evaluated. -/
theorem patternStored {now : Tick} {s u : State} {p : Fin 3} {set : PatternSet} {force : Force}
    (lamps : u.lamps = (advanceTo now s).lamps) (deck : u.deck = (advanceTo now s).deck) (nodes : u.nodes = s.nodes)
    (banks : u.banks = s.banks) (settings : u.settings = s.settings) :
    let w := evaluateAssigned (fun i => i.val == p.val) (patternStaged p set force u)
    w = (u.setLamps { w.lamps with sincePhase := u.lamps.sincePhase }).setDeck { u.deck with queue := w.deck.queue }
      ∧ w.lamps.patterns = s.lamps.patterns.set p { s.lamps.patterns[p] with staged := some set, force := force }
      ∧ ((∀ lane : Lane, s.lamps.records[lane].assignment ≠ some p) → w.deck = u.deck)
      ∧ ∀ lane : Lane,
        (s.lamps.records[lane].assignment ≠ some p → w.lamps.records[lane] = s.lamps.records[lane])
        ∧ (s.lamps.records[lane].assignment = some p →
          LampEvaluated s w lane (Lit s.lamps.patterns[p].live s.lamps.patterns[p].phase force)) := by
  obtain ⟨y, is⟩ : ∃ y, y = patternStaged p set force u := ⟨_, rfl⟩
  rw [← is]
  have moved := evaluateAssigned_moved (fun i : Fin 3 => i.val == p.val) y
  have records : y.lamps.records = s.lamps.records := by
    rw [is]
    change u.lamps.records = _
    rw [lamps]
    rfl
  have patterns : y.lamps.patterns = s.lamps.patterns.set p { s.lamps.patterns[p] with staged := some set, force := force } := by
    rw [is]
    change u.lamps.patterns.set p { u.lamps.patterns[p] with staged := some set, force := force } = _
    rw [lamps]
    rfl
  have due (lane : Lane) : y.lamps.records[lane].assignment.any (fun i => i.val == p.val) = true ↔
      s.lamps.records[lane].assignment = some p := by
    rw [records]
    cases s.lamps.records[lane].assignment <;> simp [Fin.ext_iff]
  have rests (lane : Lane) (other : s.lamps.records[lane].assignment ≠ some p) :=
    Bool.eq_false_iff.mpr (mt (due lane).mp other)
  have frame := patterned_frame (u := u) (y := y)
    (patterns := u.lamps.patterns.set p { u.lamps.patterns[p] with staged := some set, force := force }) is moved.frame
  refine ⟨frame, moved.patterns.trans patterns, fun none => ?_, fun lane => ⟨fun other => ?_, fun assigned => ?_⟩⟩
  · have still : evaluateAssigned (fun i : Fin 3 => i.val == p.val) y = y :=
      evaluateAssigned_none fun lane => rests lane (none lane)
    change (evaluateAssigned (fun i : Fin 3 => i.val == p.val) y).deck = u.deck
    rw [still, is]
    rfl
  · rw [← records]
    exact (evaluateAssigned_lane (fun i : Fin 3 => i.val == p.val) y lane).1 (rests lane other)
  · have wants : wantedLit y lane = Lit s.lamps.patterns[p].live s.lamps.patterns[p].phase force := by
      rw [wantedLit_assigned (p := p) (by rw [records]; exact assigned), patterns]
      simp
    rw [← wants]
    refine ((evaluateAssigned_lane (fun i : Fin 3 => i.val == p.val) y lane).2 ((due lane).mpr assigned)).of_tables
      (lampStation_of_tables (is ▸ nodes) (is ▸ banks)) records ?_ (is ▸ settings)
      (.of_tables (is ▸ nodes) (is ▸ settings))
    rw [is]
    change u.deck.queue = _
    rw [deck]
    rfl

theorem ownerTurn_tables (now : Tick) (s : State) (code : TableCode) (index : Nat) :
    let u := oneOpened now s code index
    u.lamps = (advanceTo now s).lamps ∧ u.deck = (advanceTo now s).deck ∧ u.nodes = s.nodes ∧ u.banks = s.banks
      ∧ u.settings = s.settings ∧ u.filters = s.filters := by
  have turn := ownerTurn_eq now s
  unfold oneOpened
  rw [turn]
  exact ⟨rfl, rfl, rfl, rfl, rfl, rfl⟩

/-- A written pattern: the load's end. -/
theorem tload_pattern {now : Tick} {src tag : Byte} {p : Fin 3} {e : List Byte} {s : State} {room : List Telegram}
    {set : PatternSet} {force : Force} (served : ConsoleServed s) (place : PlaceMade s room)
    (closed : s.orders.chain = none) (length : e.length = 5) (idle : tableBusy s .patterns = false)
    (written : patternWrite e = some (set, force)) :
    let u := oneOpened now s .patterns p.val
    let w := evaluateAssigned (fun i => i.val == p.val) (patternStaged p set force u)
    exec (.tloadFirst now src tag ([1, 4, byteOf p.val, 1] ++ e)) s = .next (answered
      (((loadedTurn now s).setLamps { w.lamps with sincePhase := u.lamps.sincePhase }).setDeck
        { u.deck with queue := w.deck.queue }) room (response s src tag .tload .ok 0 [1, 0, 255, 255])) := by
  intro u
  have index : (byteOf p.val).toNat = p.val := byteOf_toNat (by omega)
  have within : (byteOf p.val).toNat < tableSize .patterns := by rw [index]; exact p.isLt
  obtain ⟨lamps, deck, nodes, banks, own, _⟩ := ownerTurn_tables now s .patterns p.val
  have frame := (patternStored (now := now) (s := s) (u := u) (p := p) (set := set) (force := force) lamps deck nodes banks own).1
  obtain ⟨w, is⟩ : ∃ w, w = evaluateAssigned (fun i => i.val == p.val) (patternStaged p set force u) := ⟨_, rfl⟩
  rw [← is] at frame ⊢
  have closes : closeChain w = ((loadedTurn now s).setLamps { w.lamps with sincePhase := u.lamps.sincePhase }).setDeck
      { u.deck with queue := w.deck.queue } := by
    refine (congrArg closeChain frame).trans ((closeChain_lamps _ _ _).trans ?_)
    rw [closeChain_oneOpened served.2]
  refine tload_leaves (code := .patterns) (w := w) served place closed idle length (by rintro rfl; exact nomatch length) within
    (fun b => ?_) closes (ownerTurn_board now s) (ownerTurn_settings now s)
  rw [index, is]
  refine (writePattern_at written (u.setBoard b)).trans (congrArg some ?_)
  exact evaluateAssigned_setBoard _ (patternStaged p set force u) b

theorem writeBank_head {e : List Byte} {head : Option HeatHead} {bank : Bank} {s : State}
    (standby : s.standbyBank = bank) (written : headWrite e = some head) :
    writeBank 0 e s = some (setStandby { bank with head := head } s) := by
  subst standby
  exact congrArg (Option.map _) written

theorem writeBank_lane {e : List Byte} {bank : Bank} {s : State} (lane : Lane) (standby : s.standbyBank = bank) :
    writeBank (lane.val + 1) e s = some (setStandby { bank with lanes := bank.lanes.set lane (laneWrite e) } s) := by
  subst standby
  exact dif_pos lane.isLt

/-- Settles O43: each table's entry is what its own write function gives; a pattern's lanes are evaluated behind it. -/
theorem filterAndBankWrites : Obligations.FilterAndBankWrites := by
  intro now src tag e s room served place closed v b wide Answered bankWith numbered
  have fresh {code : TableCode} {index : Nat} : closeChain (oneOpened now s code index) = v := closeChain_oneOpened served.2 code index
  have board : v.board = (advanceTo now s).board := ownerTurn_board now s
  have settings : v.settings = s.settings := ownerTurn_settings now s
  have opened (index : Nat) : (oneOpened now s .bank index).banks = s.banks := (ownerTurn_tables now s .bank index).2.2.2.1
  have store (bank : Bank) : bankWith bank = bankStoreWith s.banks bank := by
    simp only [bankWith, bankStoreWith] <;> cases s.banks.active <;> rfl
  have closes (index : Nat) (bank : Bank) : closeChain ((oneOpened now s .bank index).setBanks (bankWith bank)) =
      v.setBanks (bankWith bank) := by
    rw [closeChain_setBanks, fresh]
  have standbyBank (index : Nat) (b : BoardTransmitter) :
      ((oneOpened now s .bank index).setBoard b).standbyBank = s.standbyBank := by
    unfold State.standbyBank
    rw [show ((oneOpened now s .bank index).setBoard b).banks = s.banks from opened index]
  have standby (index : Nat) (bank : Bank) (b : BoardTransmitter) : setStandby bank ((oneOpened now s .bank index).setBoard b) =
      ((oneOpened now s .bank index).setBanks (bankWith bank)).setBoard b := by
    rw [setStandby_store, store, show ((oneOpened now s .bank index).setBoard b).banks = s.banks from opened index]
    rfl
  refine ⟨fun i length => ?filters, fun unlocked length => ?head, fun lane unlocked length => ?lane, fun p length state => ?pattern⟩
  case filters =>
    have index : (byteOf i.val).toNat = i.val := byteOf_toNat (by omega)
    have some' : e ≠ [] := by rintro rfl; exact nomatch length
    have within : (byteOf i.val).toNat < tableSize .filters := by rw [index]; exact i.isLt
    have filters := (ownerTurn_tables now s .filters (byteOf i.val).toNat).2.2.2.2.2
    have accepted {entry : Option FilterEntry} (written : filterWrite e = some entry) :
        Answered 2 (byteOf i.val) (v.setFilters (s.filters.set i entry)) [1, 0, 255, 255] := by
      refine tload_leaves (code := .filters) (w := (oneOpened now s .filters (byteOf i.val).toNat).setFilters (s.filters.set i entry))
        served place closed rfl length some' within (fun b => ?_) ?_ board settings
      · have here : writeFilter i.val e ((oneOpened now s .filters (byteOf i.val).toNat).setBoard b) =
            some (((oneOpened now s .filters (byteOf i.val).toNat).setBoard b).setFilters
              ((oneOpened now s .filters (byteOf i.val).toNat).filters.set i entry)) := by
          unfold writeFilter
          rw [dif_pos i.isLt, written]
          rfl
        rw [filters] at here
        rw [show (byteOf i.val).toNat = i.val from index] at here ⊢
        exact here
      · rw [closeChain_setFilters, fresh]
    refine ⟨fun empty => accepted (filterWrite_emptied empty), fun loads high => ?_, fun loads action is => ?_⟩
    · refine tload_refuses (code := .filters) served place closed rfl length some' within fun b => ?_
      have none : filterWrite e = none := by
        rw [filterWrite_loaded loads, actionOf_high high]
        rfl
      rw [index]
      change (if h : i.val < 16 then _ else _) = _
      rw [dif_pos i.isLt, none]
      rfl
    · refine accepted ?_
      rw [filterWrite_loaded loads, is, actionOf_code]
      rfl
  case head =>
    have some' : e ≠ [] := by rintro rfl; exact nomatch length
    have idle : tableBusy s .bank = false := unlocked
    have accepted {head : Option HeatHead} (written : headWrite e = some head) :
        Answered 3 0 (v.setBanks (bankWith { s.standbyBank with head := head })) [1, 0, 255, 255] := by
      refine tload_leaves (code := .bank) (index := 0) served place closed idle length some' (by decide) (fun b => ?_)
        (closes 0 _) board settings
      exact (writeBank_head (standbyBank _ b) written).trans (congrArg some (standby 0 _ b))
    refine ⟨fun empty => accepted (headWrite_emptied empty), fun loads unnumbered => ?_, fun loads is => ?_⟩
    · refine tload_refuses (code := .bank) (index := 0) served place closed idle length some' (by decide) fun b => ?_
      have none : headWrite e = none := by
        unfold headWrite
        rw [if_neg loads, storedHead_eq length]
        exact if_neg unnumbered
      exact congrArg (Option.map _) none
    · refine accepted ?_
      unfold headWrite
      rw [if_neg loads, storedHead_eq length]
      exact if_pos is
  case lane =>
    have some' : e ≠ [] := by rintro rfl; exact nomatch length
    have idle : tableBusy s .bank = false := unlocked
    have index : (byteOf (lane.val + 1)).toNat = lane.val + 1 := byteOf_toNat (by omega)
    have sized : e.length = entrySize .bank (byteOf (lane.val + 1)).toNat := by
      rw [index, length]
      rfl
    refine tload_leaves (code := .bank) served place closed idle sized some' (by rw [index]; change lane.val + 1 < 11; omega)
      (fun b => ?_) (closes (byteOf (lane.val + 1)).toNat _) board settings
    rw [← laneWrite_eq length, ← standby]
    rw [index]
    exact writeBank_lane lane (standbyBank _ b)
  case pattern =>
    intro Stored period onEdge
    have index : (byteOf p.val).toNat = p.val := byteOf_toNat (by omega)
    have some' : e ≠ [] := by rintro rfl; exact nomatch length
    have within : (byteOf p.val).toNat < tableSize .patterns := by rw [index]; exact p.isLt
    have idle : tableBusy s .patterns = false := by
      rcases state with is | is | is <;> simp [tableBusy, is]
    have accepted {set : PatternSet} {force : Force} (written : patternWrite e = some (set, force)) : Stored set force := by
      obtain ⟨lamps, deck, nodes, banks, own, _⟩ := ownerTurn_tables now s .patterns p.val
      obtain ⟨frame, patterns, still, lanes⟩ := patternStored (p := p) (set := set) (force := force) lamps deck nodes banks own
      have leaves := tload_pattern (now := now) (src := src) (tag := tag) (p := p) served place closed length idle written
      dsimp only at leaves patterns still lanes
      generalize evaluateAssigned (fun i => i.val == p.val) (patternStaged p set force (oneOpened now s .patterns p.val)) = w
        at leaves patterns still lanes
      exact ⟨_, leaves, rfl, patterns, fun none => congrArg (fun d : DeckPoller =>
        { (oneOpened now s .patterns p.val).deck with queue := d.queue }) (still none), lanes⟩
    refine ⟨fun empty => accepted (patternWrite_emptied empty), fun loads high => ?_, fun loads force is => ?_⟩
    · refine tload_refuses (code := .patterns) served place closed idle length some' within fun b => ?_
      have none : patternWrite e = none := by
        rw [patternWrite_loaded length loads, forceOf_high high]
        rfl
      rw [index]
      exact writePattern_none none _
    · refine accepted ?_
      rw [patternWrite_loaded length loads]
      have code : forceOf (byteAt e 4).toNat = some force := by
        rcases is with ⟨code, rfl⟩ | ⟨code, rfl⟩ | ⟨code, rfl⟩ <;> rw [show byteAt e 4 = _ from code] <;> rfl
      rw [code]
      rfl

/-! ### The channel's expiries (R153, R154, R156, R159) -/

theorem expired_some {timer : Timer} (ends : timer.span ≤ timer.elapsed) : expired (some timer) = true := decide_eq_true ends

theorem advanceTo_now (now : Tick) (s : State) : (advanceTo now s).now = now := rfl

theorem congrArg_both {α β γ : Type} (f : α → β → γ) {x y : α} {u v : β} (first : x = y) (second : u = v) : f x u = f y v :=
  first ▸ second ▸ rfl

/-- Settles O54: each expiry is one change of the channel, with the timers that it stops and starts. -/
theorem channelTimersExpire : Obligations.ChannelTimersExpire := by
  intro now s timer ends u o
  have due {t : Option Timer} (is : t = some timer) : expired t = true := is ▸ expired_some ends
  refine ⟨fun claim => ?_, fun handover claimed closed => ?_, fun home => ?_, fun chain opened gap free => ?_⟩
  · exact congrArg Host.Outcome.next (if_pos (due claim))
  · have passes : o.claim.isSome = true ∧ o.chain.isNone = true :=
      ⟨Option.isSome_iff_ne_none.mpr claimed, Option.isNone_iff_eq_none.mpr closed⟩
    refine congrArg Host.Outcome.next ((if_pos (due handover)).trans ((if_pos passes).trans ?_))
    have side : otherSide s.orders.owner = if s.orders.owner = .console then .panel else .console := by
      cases s.orders.owner <;> rfl
    have starts : (s.settings.mode = .home ∧ otherSide s.orders.owner = .panel ∧ o.chain = none) ↔
        (s.orders.owner = .console ∧ s.settings.mode = .home) := by
      rw [closed]
      cases s.orders.owner <;> simp [otherSide]
    rw [passOwnership_eq]
    exact congrArg_both (fun owner home =>
      u.setOrders { o with owner := owner, claim := none, handover := none, home := home }) side (ite_congr (propext starts) (fun _ => rfl) fun _ => rfl)
  · refine congrArg Host.Outcome.next ((if_pos (due home)).trans ?_)
    rw [passOwnership_eq, if_neg (fun h => nomatch h.2.1)]
  · intro w n
    refine congrArg Host.Outcome.next ((if_pos ?_).trans ?_)
    · exact due (by rw [show (advanceTo now s).orders.chain = some chain from opened, ← gap]; rfl)
    · have closes : closeChain (advanceTo now s) = w := by
        have claimed : u.orders.claim ≠ none ↔ s.orders.claim.isSome = true := by
          rw [Option.isSome_iff_ne_none, Ne, Ne, advanceTo_claim_none]
        rw [closeChain_eq]
        exact congrArg_both (fun handover home => u.setOrders { o with chain := none, handover := handover, home := home })
          (ite_congr (propext claimed) (fun _ => rfl) fun _ => rfl) (ite_congr (propext and_comm) (fun _ => rfl) fun _ => rfl)
      rw [closes, raise_free (s := w) (placesFree_one free)]
      rfl

end Sys2Proof.Machine
end
section
/-! The orders to the tallies (R171, R172). -/

namespace Sys2Proof.Machine

theorem counterOf_above {b : Byte} (above : 7 < b.toNat) : counterOf b = none := dif_neg (by omega)

theorem counterOf_byteOf (i : Fin 8) : counterOf (byteOf i.val) = some i := by
  have index : (byteOf i.val).toNat = i.val := byteOf_toNat (by omega)
  unfold counterOf
  rw [dif_pos (by omega)]
  exact congrArg some (Fin.ext index)

theorem modifyAt_eq_set {α : Type} {n : Nat} (table : Vector α n) (i : Fin n) (f : α → α) :
    modifyAt table i f = table.set i (f table[i]) := by
  ext k inside
  simp only [modifyAt_getElem, Vector.getElem_set, Fin.getElem_fin]
  split
  · next same => subst same; rfl
  · rfl

theorem changeCounter_eq (i : Fin 8) (f : TallyCounter → TallyCounter) (s : State) : changeCounter i f s =
    s.setTally { s.tally with counters := s.tally.counters.set i (f s.tally.counters[i]) } := by
  unfold changeCounter
  rw [modifyAt_eq_set]

theorem changeCounters_eq (f : TallyCounter → TallyCounter) (s : State) : changeCounters f s =
    s.setTally { s.tally with counters := Vector.ofFn fun i : Fin 8 => f s.tally.counters[i] } := by
  have entries : mapAll s.tally.counters f = Vector.ofFn fun i : Fin 8 => f s.tally.counters[i] := by
    ext k inside
    simp [mapAll]
  rw [changeCounters, entries]

theorem number_three (high mid low : Byte) : BitVec.ofNat 24 (number [high, mid, low]) = high ++ mid ++ low := by
  have value : number [high, mid, low] = 256 * (256 * high.toNat + mid.toNat) + low.toNat := by simp [number]
  apply BitVec.eq_of_toNat_eq
  rw [value, BitVec.toNat_append, BitVec.toNat_append, BitVec.toNat_ofNat,
    ← Nat.shiftLeft_add_eq_or_of_lt low.isLt, ← Nat.shiftLeft_add_eq_or_of_lt mid.isLt, Nat.shiftLeft_eq, Nat.shiftLeft_eq]
  have := high.isLt
  have := mid.isLt
  have := low.isLt
  omega

/-- A counter that stands `k` events behind a preload of 16,777,216 less `n`. -/
theorem repeat_raiseCount {n : Nat} {c : TallyCounter} (most : n ≤ 16777215)
    (clear : c.overflow = false) (preload : c.count = BitVec.ofNat 24 (16777216 - n)) :
    ∀ k, k < n → Nat.repeat raiseCount k c = { c with count := BitVec.ofNat 24 (16777216 - n + k) }
  | 0, _ => by
    rw [Nat.repeat, Nat.add_zero, ← preload]
  | k + 1, below => by
    have step : 16777216 - n + k + 1 < 16777216 := by omega
    have value : (BitVec.ofNat 24 (16777216 - n + k)).toNat = 16777216 - n + k := by
      rw [BitVec.toNat_ofNat]
      omega
    have notLast : (BitVec.ofNat 24 (16777216 - n + k) == 16777215) = false := by
      rw [beq_eq_false_iff_ne]
      intro is
      have := congrArg BitVec.toNat is
      rw [value] at this
      exact absurd this (by rw [show (16777215 : BitVec 24).toNat = 16777215 from rfl]; omega)
    rw [Nat.repeat, repeat_raiseCount most clear preload k (by omega), raiseCount_eq]
    dsimp only
    rw [value, notLast, clear, Bool.or_false, Nat.mod_eq_of_lt step, Nat.add_assoc]

theorem preload_overflows {n : Nat} {c : TallyCounter} (least : 1 ≤ n) (most : n ≤ 16777215)
    (clear : c.overflow = false) (preload : c.count = BitVec.ofNat 24 (16777216 - n)) :
    (Nat.repeat raiseCount (n - 1) c).overflow = false ∧ (Nat.repeat raiseCount n c).overflow = true
      ∧ (Nat.repeat raiseCount n c).count = 0 := by
  obtain ⟨k, rfl⟩ : ∃ k, n = k + 1 := ⟨n - 1, by omega⟩
  have before := repeat_raiseCount most clear preload k (by omega)
  have last : 16777216 - (k + 1) + k = 16777215 := by omega
  rw [last] at before
  rw [Nat.add_sub_cancel, Nat.repeat, before, raiseCount_eq]
  exact ⟨clear, by simp, by simp⟩

/-- Settles O51: each order's effect is told by the fields it changes, for every board queue. -/
theorem tallyOrders : Obligations.TallyOrders := by
  have tally {now : Tick} {s : State} (b : BoardTransmitter) : ((ownerTurn now s).setBoard b).tally = s.tally :=
    ownerTurn_tally now s
  refine ⟨⟨fun now src tag counter high mid low s room served place => ?tset, fun n c least most clear preload =>
    preload_overflows least most clear preload⟩, fun now src tag action counter select m1 m0 value mask flags s room served
      place => ?tctl⟩
  case tset =>
    intro v Answered
    refine ⟨fun above => ?_, fun i is => ?_⟩
    · refine congrArg Host.Outcome.next (consoleOrder_owner_unchanged (a := refuse 1) served place rfl rfl fun b => ?_)
      unfold orderTset
      rw [show byteAt [counter, high, mid, low] 0 = counter from rfl, counterOf_above above]
    · subst is
      refine congrArg Host.Outcome.next (consoleOrder_owner_effect (a := plain .ok) served place rfl rfl (fun b => ?_)
        (ownerTurn_board now s) (congrArg Settings.station (ownerTurn_settings now s)))
      unfold orderTset
      rw [show byteAt [byteOf i.val, high, mid, low] 0 = byteOf i.val from rfl, counterOf_byteOf]
      dsimp only
      rw [changeCounter_eq, tally b, show field [byteOf i.val, high, mid, low] 1 3 = number [high, mid, low] from rfl,
        number_three]
      rfl
  case tctl =>
    intro v fields Answered unit counters configure clear
    have done {body : List Byte} (suits : body.length = 8) {effect : State → State × Answer} {t : State}
        (does : ∀ b, effect (v.setBoard b) = (t.setBoard b, plain .ok)) (board : t.board = v.board)
        (settings : t.settings = v.settings) : consoleOrder src .tctl tag body effect (advanceTo now s) =
          answered t room (response s src tag .tctl .ok 0 []) :=
      consoleOrder_owner_effect (a := plain .ok) served place (by rw [suits]; rfl) rfl does (board.trans (ownerTurn_board now s))
        (congrArg Settings.station (settings.trans (ownerTurn_settings now s)))
    have refused {body : List Byte} (suits : body.length = 8) {effect : State → State × Answer} {reason : Nat}
        (does : ∀ b, effect (v.setBoard b) = (v.setBoard b, refuse reason)) : consoleOrder src .tctl tag body effect (advanceTo now s) =
          answered v room (response s src tag .tctl .refused reason []) :=
      consoleOrder_owner_unchanged (a := refuse reason) served place (by rw [suits]; rfl) rfl does
    have units (b : BoardTransmitter) : (v.setBoard b).tally = s.tally := tally b
    have lanes : BitVec.ofNat 11 (number [m1, m0]) = (m1 ++ m0).setWidth 11 := by
      rw [← number_two, BitVec.setWidth_ofNat_of_le (by decide)]
    have counter1 (first : Byte) : byteAt (first :: fields) 1 = counter := rfl
    refine ⟨fun above => ?_, fun low high => ?_, fun i is known => ?_, ?_, ?_, ?_, fun is => ?_, fun i is => ?_,
      fun above other => ?_, ?_, fun _ => ?_⟩
    · refine congrArg Host.Outcome.next (refused rfl fun b => ?_)
      unfold tctlConfigure
      rw [counter1, counterOf_above above]
    · refine congrArg Host.Outcome.next (refused rfl fun b => ?_)
      have is := counterOf_byteOf ⟨counter.toNat, by omega⟩
      rw [byteOf_toNat_self] at is
      unfold tctlConfigure
      rw [counter1, is]
      exact if_pos (by rw [field_one _ 2 (by simp [fields])]; exact high)
    · subst is
      refine congrArg Host.Outcome.next (done rfl (fun b => ?_) rfl rfl)
      unfold tctlConfigure
      rw [counter1, counterOf_byteOf]
      refine (if_neg (by rw [field_one _ 2 (by simp [fields])]; exact Nat.not_lt.mpr known)).trans ?_
      rw [changeCounter_eq, units, field_one _ 2 (by simp [fields]), show field (1 :: fields) 3 2 = number [m1, m0] from rfl, lanes]
      rfl
    · exact congrArg Host.Outcome.next (done rfl (fun b => by rw [tctlFreeze, units]; rfl) rfl rfl)
    · exact congrArg Host.Outcome.next (done rfl (fun b => by rw [tctlUnfreeze, units]; rfl) rfl rfl)
    · exact congrArg Host.Outcome.next (done rfl (fun b => by rw [tctlZero, changeCounters_eq, units]; rfl) rfl rfl)
    · subst is
      refine congrArg Host.Outcome.next (done rfl (fun b => ?_) rfl rfl)
      refine (if_pos rfl).trans ?_
      rw [changeCounters_eq, units]
      rfl
    · subst is
      refine congrArg Host.Outcome.next (done rfl (fun b => ?_) rfl rfl)
      have notAll : byteOf i.val ≠ 255 := by
        intro all
        have := congrArg BitVec.toNat all
        rw [byteOf_toNat (by omega)] at this
        exact absurd this (by change i.val ≠ 255; omega)
      unfold tctlClearOverflow
      rw [counter1, if_neg notAll, counterOf_byteOf]
      dsimp only
      rw [changeCounter_eq, units]
      rfl
    · refine congrArg Host.Outcome.next (refused rfl fun b => ?_)
      unfold tctlClearOverflow
      rw [counter1, if_neg other, counterOf_above above]
    · exact congrArg Host.Outcome.next (done rfl (fun b => by rw [tctlSetMode, units]; rfl) rfl rfl)
    · exact congrArg Host.Outcome.next (refused rfl fun b => rfl)

end Sys2Proof.Machine
end
section
/-! Changes of heat: the lamps cleared, the heat announced, and the orders and expiries that do so (R65 to R70, R81 to R89). -/

namespace Sys2Proof.Machine

/-! ### The lamp assignments cleared (R148) -/

/-- A change of state that neither reads nor touches the lamps, the deck command queue and the settings. -/
structure LeavesLamps (g : State → State) : Prop where
  lamps : ∀ s, (g s).lamps = s.lamps
  deck : ∀ s, (g s).deck = s.deck
  settings : ∀ s, (g s).settings = s.settings
  setLamps : ∀ s l, g (s.setLamps l) = (g s).setLamps l
  setDeck : ∀ s d, g (s.setDeck d) = (g s).setDeck d

theorem leavesLamps_setBoard (b : State → BoardTransmitter) (sees : ∀ s l d, b ((s.setLamps l).setDeck d) = b s) :
    LeavesLamps fun s => s.setBoard (b s) where
  lamps _ := rfl
  deck _ := rfl
  settings _ := rfl
  setLamps s l := congrArg (fun x => (s.setLamps l).setBoard x) (sees s l s.deck)
  setDeck s d := congrArg (fun x => (s.setDeck d).setBoard x) (sees s s.lamps d)

theorem leavesLamps_setStatus (k : NoticeKind) (b : Bool) : LeavesLamps (setStatus k b) where
  lamps _ := rfl
  deck _ := rfl
  settings _ := rfl
  setLamps _ _ := rfl
  setDeck _ _ := rfl

theorem LeavesLamps.darkenLamp {g : State → State} (h : LeavesLamps g) (lane : Lane) (s : State) :
    darkenLamp lane (g s) = g (darkenLamp lane s) := by
  have records : (g s).lamps.records = s.lamps.records := by rw [h.lamps]
  cases lit : s.lamps.records[lane].produced with
  | false => rw [darkenLamp_dark lit, darkenLamp_dark (by rw [records]; exact lit)]
  | true =>
    cases recorded : s.lamps.records[lane].recorded with
    | none =>
      rw [darkenLamp_unrecorded lit recorded, darkenLamp_unrecorded (by rw [records]; exact lit) (by rw [records]; exact recorded)]
      unfold setLamp
      rw [h.setLamps, h.lamps]
    | some station =>
      rw [darkenLamp_lit lit recorded, darkenLamp_lit (by rw [records]; exact lit) (by rw [records]; exact recorded),
        produceLamp_eq, produceLamp_eq]
      unfold setLamp lampTelegram
      rw [h.setDeck, h.setLamps, h.lamps, h.deck, h.settings]

/-- The state whose lanes are all assigned none, their lamps as they stood. -/
def unassigned (s : State) : State :=
  s.setLamps { s.lamps with records := mapAll s.lamps.records fun r => { r with assignment := none } }

theorem clearLamps_eq (s : State) : clearLamps s = allLanes.foldl (fun s lane => darkenLamp lane s) (unassigned s) := rfl

theorem LeavesLamps.clearLamps {g : State → State} (h : LeavesLamps g) (s : State) : clearLamps (g s) = g (clearLamps s) := by
  have base : unassigned (g s) = g (unassigned s) := by
    unfold unassigned
    rw [h.setLamps, h.lamps]
  rw [clearLamps_eq, clearLamps_eq, base]
  generalize unassigned s = u
  generalize allLanes = lanes
  induction lanes generalizing u with
  | nil => rfl
  | cons lane lanes ih => rw [List.foldl_cons, h.darkenLamp, ih, List.foldl_cons]

theorem clearLamps_moved (s : State) : LampsMoved allLanes (unassigned s) (clearLamps s) :=
  foldl_moved darkenLamp_moved allLanes _ (List.nodup_finRange 10)

theorem unassigned_lamps (s : State) : (unassigned s).lamps =
    { s.lamps with records := mapAll s.lamps.records fun r => { r with assignment := none } } := rfl

theorem unassigned_records (s : State) : (unassigned s).lamps.records =
    mapAll s.lamps.records fun r => { r with assignment := none } := rfl

theorem unassigned_deck (s : State) : (unassigned s).deck = s.deck := rfl

theorem unassigned_record (s : State) (lane : Lane) :
    (unassigned s).lamps.records[lane] = { s.lamps.records[lane] with assignment := none } := by
  rw [unassigned_records, mapAll_entry]

theorem clearLamps_record (s : State) (lane : Lane) : (clearLamps s).lamps.records[lane] =
    { s.lamps.records[lane] with assignment := none, produced := false } := by
  obtain ⟨before, behind, x, first, notBefore, notBehind, _, last⟩ := round_at darkenLamp_moved lane (unassigned s)
  rw [clearLamps_eq, last.others lane notBehind, darkenLamp_record, if_pos rfl, first.others lane notBefore, unassigned_record]

/-- A LAMP off for a station waits in the deck command queue. -/
def OffQueued (station : Byte) (s : State) : Prop :=
  ∃ e ∈ s.deck.queue, (∃ lane, e.origin = .lamp lane) ∧ e.telegram = ⟨station, s.settings.station, kindLamp, [0]⟩

theorem produceLamp_offQueued (lane : Lane) (station : Byte) (s : State) : OffQueued station (produceLamp lane station false s) := by
  refine ⟨⟨.lamp lane, lampTelegram s station false⟩, ?_, ⟨lane, rfl⟩, ?_⟩
  · rw [produceLamp_queue]
    exact mem_withLamp_self _ _
  · rw [produceLamp_eq]
    rfl

/-- Another lane's darkening keeps a LAMP off, or puts its own for the same station in its place. -/
theorem OffQueued.darkenLamp {station : Byte} {s : State} (h : OffQueued station s) (lane : Lane) :
    OffQueued station (darkenLamp lane s) := by
  cases lit : s.lamps.records[lane].produced with
  | false => rw [darkenLamp_dark lit]; exact h
  | true =>
    cases recorded : s.lamps.records[lane].recorded with
    | none => rw [darkenLamp_unrecorded lit recorded]; exact h
    | some other =>
      rw [darkenLamp_lit lit recorded]
      by_cases same : other = station
      · subst same
        exact produceLamp_offQueued lane other s
      · obtain ⟨e, mem, lamp, is⟩ := h
        refine ⟨e, ?_, lamp, ?_⟩
        · rw [produceLamp_queue]
          refine mem_withLamp_of_other mem (Bool.eq_false_iff.mpr fun here => same ?_)
          exact (isLampFor_iff.mp here).2.symm.trans (congrArg Telegram.dest is)
        · rw [produceLamp_eq]
          exact is

theorem foldl_offQueued {station : Byte} (lanes : List Lane) {s : State} (h : OffQueued station s) :
    OffQueued station (lanes.foldl (fun s lane => darkenLamp lane s) s) := by
  induction lanes generalizing s with
  | nil => exact h
  | cons lane lanes ih => exact ih (h.darkenLamp lane)

theorem clearLamps_offQueued {s : State} {lane : Lane} {station : Byte} (lit : s.lamps.records[lane].produced = true)
    (recorded : s.lamps.records[lane].recorded = some station) : OffQueued station (clearLamps s) := by
  obtain ⟨before, behind, split⟩ := List.append_of_mem (List.mem_finRange lane)
  have once : (before ++ lane :: behind).Nodup := split ▸ List.nodup_finRange 10
  obtain ⟨first, _, apart⟩ := List.nodup_append.mp once
  have moved := foldl_moved darkenLamp_moved before (unassigned s) first
  have record : (before.foldl (fun s lane => darkenLamp lane s) (unassigned s)).lamps.records[lane] =
      { s.lamps.records[lane] with assignment := none } :=
    (moved.others lane fun mem => apart lane mem lane List.mem_cons_self rfl).trans (unassigned_record s lane)
  rw [clearLamps_eq, allLanes, split, List.foldl_append, List.foldl_cons]
  refine foldl_offQueued behind ?_
  rw [darkenLamp_lit (station := station) (by rw [record]; exact lit) (by rw [record]; exact recorded)]
  exact produceLamp_offQueued lane station _

theorem clearLamps_frame (s : State) :
    clearLamps s = (s.setLamps (clearLamps s).lamps).setDeck (clearLamps s).deck := by
  have frame := (clearLamps_moved s).frame
  generalize clearLamps s = t at frame
  rw [frame]
  rfl

theorem clearLamps_settings (s : State) : (clearLamps s).settings = s.settings := by
  have frame := clearLamps_frame s
  generalize clearLamps s = t at frame
  rw [frame]
  rfl

theorem LampsMoved.sincePhase {lanes : List Lane} {s t : State} (h : LampsMoved lanes s t) :
    t.lamps.sincePhase = s.lamps.sincePhase := by
  rw [h.frame]
  rfl

theorem LampsMoved.deckKept {lanes : List Lane} {s t : State} (h : LampsMoved lanes s t) :
    t.deck = { s.deck with queue := t.deck.queue } := by
  rw [h.frame]
  rfl

/-- Clearing the assignments clears the lamps in the sense of the statements. -/
theorem clearLamps_cleared (s : State) : LampsCleared s (clearLamps s) := by
  have moved := clearLamps_moved s
  have patterns : (clearLamps s).lamps.patterns = s.lamps.patterns := 
    moved.patterns.trans (congrArg LampGenerator.patterns (unassigned_lamps s) :)
  have since : (clearLamps s).lamps.sincePhase = s.lamps.sincePhase :=
    moved.sincePhase.trans (congrArg LampGenerator.sincePhase (unassigned_lamps s) :)
  have deck := moved.deckKept
  have rest := moved.rest
  rw [unassigned_deck] at deck rest
  have record := clearLamps_record s
  have still (dark : ∀ lane : Lane, s.lamps.records[lane].produced = false) : (clearLamps s).deck.queue = s.deck.queue := by
    have still (lane : Lane) : darkenLamp lane (unassigned s) = unassigned s :=
      darkenLamp_dark (by rw [unassigned_record]; exact dark lane)
    rw [clearLamps_eq, foldl_still still, unassigned_deck]
  have off (lane : Lane) (station : Byte) (lit : s.lamps.records[lane].produced = true)
      (recorded : s.lamps.records[lane].recorded = some station) := clearLamps_offQueued lit recorded
  unfold OffQueued at off
  rw [clearLamps_settings] at off
  generalize clearLamps s = t at *
  exact ⟨patterns, since, deck, record, still, off, rest⟩

/-! ### Announcing a change of heat (R73) -/

/-- A change of heat announced where two places are free: HEAT, and the NOTICE of HEAT_CHANGE when it rises toward BOARD. -/
theorem announceHeat_roomy {s : State} (room : placesTaken s.board.reserved s.board.queue + 2 ≤ 32) :
    announceHeat s = (setStatus .heatChange true s).setBoard
      { s.board with queue := s.board.queue ++ heatAnnouncement s } := by
  have one : placesTaken s.board.reserved s.board.queue < 32 := by omega
  have two : placesTaken s.board.reserved (s.board.queue ++ [heatTelegram s]) < 32 := by
    unfold placesTaken at room ⊢
    simp only [List.length_append, List.length_singleton]
    omega
  have offered : offer (heatTelegram s) s = s.setBoard { s.board with queue := s.board.queue ++ [heatTelegram s] } :=
    offer_free one (fun h => nomatch (h : kindHeat = kindSplit))
  unfold announceHeat
  have joined := raise_free (k := .heatChange) (s := s.setBoard { s.board with queue := s.board.queue ++ [heatTelegram s] }) two
  rw [offered, joined]
  unfold heatAnnouncement
  rw [← heatTelegram_eq]
  exact congrArg (fun q => (setStatus .heatChange true s).setBoard { s.board with queue := q })
    (List.append_assoc s.board.queue [heatTelegram s] (noticeSent s .heatChange 6))

/-- The state when a change of heat has been announced and its lamps have been cleared. -/
def announcedCleared (w : State) : State :=
  (((setStatus .heatChange true w).setBoard { w.board with queue := w.board.queue ++ heatAnnouncement w }).setLamps
    (clearLamps w).lamps).setDeck (clearLamps w).deck

theorem announceHeat_clearLamps {w : State} (room : placesTaken w.board.reserved w.board.queue + 2 ≤ 32) :
    announceHeat (clearLamps w) = announcedCleared w := by
  have frame := clearLamps_frame w
  unfold announcedCleared
  generalize clearLamps w = t at frame
  rw [frame, announceHeat_roomy (s := (w.setLamps t.lamps).setDeck t.deck) room]
  rfl

theorem clearLamps_announceHeat {w : State} (room : placesTaken w.board.reserved w.board.queue + 2 ≤ 32) :
    clearLamps (announceHeat w) = announcedCleared w := by
  rw [announceHeat_roomy room, (leavesLamps_setBoard (fun _ => { w.board with queue := w.board.queue ++ heatAnnouncement w })
    fun _ _ _ => rfl).clearLamps, (leavesLamps_setStatus .heatChange true).clearLamps]
  have frame := clearLamps_frame w
  unfold announcedCleared
  generalize clearLamps w = t at frame
  rw [frame]
  rfl

theorem LampsCleared.of_fields {s t u : State} (h : LampsCleared s t) (lamps : u.lamps = t.lamps) (deck : u.deck = t.deck) :
    LampsCleared s u := by
  unfold LampsCleared at h ⊢
  rw [lamps, deck]
  exact h

/-- A change of heat announced and its lamps cleared, behind which the board block is set anew. -/
theorem announcedCleared_setBoard (w : State) (b : BoardTransmitter) (telegrams : List Telegram) :
    ChangedWithLamps w ((announcedCleared (w.setBoard b)).setBoard
      { w.board with queue := w.board.queue ++ telegrams, reserved := false }) telegrams := by
  have cleared := clearLamps_cleared w
  have same : clearLamps (w.setBoard b) = (clearLamps w).setBoard b :=
    (leavesLamps_setBoard (fun _ => b) fun _ _ _ => rfl).clearLamps w
  unfold announcedCleared
  rw [same]
  generalize clearLamps w = c at cleared
  exact ⟨cleared.of_fields rfl rfl, rfl⟩

/-! ### The orders of a channel owner that announce (R137) -/

/-- The state with the place of an answer reserved in the board queue. -/
def withPlace (w : State) : State := w.setBoard { w.board with reserved := true }

theorem PlacesFree.placeMade {n : Nat} {s : State} (free : PlacesFree (n + 1) s) : PlaceMade s s.board.queue :=
  makeRoom_free (placesFree_one free)

/-- An owner's order whose effect, beside its state, adds telegrams to the board queue: the RESPONSE joins them. -/
theorem consoleOrder_owner_adds {now : Tick} {src tag : Byte} {code : OrderCode} {body : List Byte}
    {effect : State → State × Answer} {s t : State} {n : Nat} {a : Answer} {sent : List Telegram} (served : ConsoleServed s)
    (free : PlacesFree (n + 1) s) (suits : lengthSuits code body.length = true) (needs : needsChannel code = true)
    (does : effect (withPlace (ownerTurn now s)) = (t, a))
    (board : t.board = { s.board with
      queue := s.board.queue ++ sent, reserved := true, busy := (advanceTo now s).board.busy })
    (station : t.settings.station = s.settings.station) :
    consoleOrder src code tag body effect (advanceTo now s) = t.setBoard { (advanceTo now s).board with
      queue := s.board.queue ++ (sent ++ [response s src tag code a.status a.reason a.body]), reserved := false } := by
  have reserved : (ownerTurn now s).setBoard { (advanceTo now s).board with queue := s.board.queue, reserved := true } =
      withPlace (ownerTurn now s) := by
    unfold withPlace
    rw [ownerTurn_board]
    rfl
  rw [consoleOrder_owner served free.placeMade suits needs, reserved, does]
  unfold respondConsole fillReservation responseTelegram response responsePayload
  rw [station, board, ← List.append_assoc]
  rfl

theorem initialRecord_eq (e : LaneEntry) : initialRecord e = { vacantRecord with
    state := if e.occupied then .waiting else .vacant, competitor := if e.occupied then e.competitor else 0 } := by
  unfold initialRecord
  cases e.occupied <;> rfl

theorem initialiseLanes_eq (s : State) : initialiseLanes s = relined s := by
  unfold initialiseLanes relined mapAll
  simp only [initialRecord_eq]
  rfl

theorem clearBoosts_eq (s : State) : clearBoosts s = unboosted s := by
  unfold clearBoosts unboosted withoutBoosts mapAll
  rfl

theorem enterClosing_eq (s : State) : enterClosing s = announceHeat (closing s.now s) := by
  unfold enterClosing closing
  rw [startTimer_now]
  rfl

theorem swapBanks_eq (s : State) : swapBanks s = clearLamps (announceHeat
    (rearmed (timersStopped (s.setBanks { s.banks with active := otherBank s.banks.active })))) := by
  unfold swapBanks rearmed
  simp only [initialiseLanes_eq, clearBoosts_eq]
  rfl

theorem abortHeat_eq (s : State) : abortHeat s = announceHeat (clearLamps
    (rearmed (timersStopped (s.setBanks { s.banks with pendingSwap := false })))) := by
  unfold abortHeat rearmed
  simp only [initialiseLanes_eq, clearBoosts_eq]
  rfl

theorem clearHeat_eq (s : State) : clearHeat s = announceHeat (clearLamps
    (emptied ((s.setBanks { s.banks with pendingSwap := false }).setClock { s.clock with resultHold := none }))) := rfl

/-- The board queue with a place reserved for an answer still takes two telegrams where three places were free. -/
theorem PlacesFree.roomy {now : Tick} {s w : State} (free : PlacesFree 3 s)
    (board : w.board = (withPlace (ownerTurn now s)).board) : placesTaken w.board.reserved w.board.queue + 2 ≤ 32 := by
  obtain ⟨_, room⟩ := free
  have room' : s.board.queue.length + 3 ≤ 32 := room
  rw [board]
  unfold withPlace placesTaken
  simp only [State.setBoard_board, ownerTurn_board]
  have queue : (advanceTo now s).board.queue = s.board.queue := rfl
  rw [queue]
  simp
  omega

theorem announcedCleared_board (w : State) (b : BoardTransmitter) : (announcedCleared (w.setBoard b)).board =
    { b with queue := b.queue ++ heatAnnouncement w } := by
  unfold announcedCleared
  generalize clearLamps (w.setBoard b) = c
  rfl

theorem announcedCleared_settings (w : State) : (announcedCleared w).settings = w.settings := by
  unfold announcedCleared
  generalize clearLamps w = c
  rfl

/-- An owner's order that clears the lamps and announces a change of heat: `w` is the state it announces. -/
theorem consoleOrder_owner_changes {now : Tick} {src tag : Byte} {code : OrderCode} {body : List Byte}
    {effect : State → State × Answer} {s w : State} {a : Answer} (served : ConsoleServed s) (free : PlacesFree 3 s)
    (suits : lengthSuits code body.length = true) (needs : needsChannel code = true)
    (does : ∀ b : BoardTransmitter, placesTaken b.reserved b.queue + 2 ≤ 32 →
      effect ((ownerTurn now s).setBoard b) = (announcedCleared (w.setBoard b), a))
    (board : w.board = (advanceTo now s).board) (settings : w.settings = s.settings) :
    ∃ t, consoleOrder src code tag body effect (advanceTo now s) = t
      ∧ ChangedWithLamps w t (heatAnnouncement w ++ [response s src tag code a.status a.reason a.body]) := by
  have roomy := PlacesFree.roomy (w := withPlace (ownerTurn now s)) free rfl
  have order := consoleOrder_owner_adds (src := src) (tag := tag) (sent := heatAnnouncement w) served free suits needs
    (does _ roomy) ?_ ((congrArg Settings.station (announcedCleared_settings _)).trans (congrArg Settings.station settings))
  · refine ⟨_, rfl, ?_⟩
    have changed := announcedCleared_setBoard w { (ownerTurn now s).board with reserved := true }
      (heatAnnouncement w ++ [response s src tag code a.status a.reason a.body])
    rw [order]
    rw [board] at changed
    exact changed
  · rw [announcedCleared_board, ownerTurn_board]
    rfl

/-! ### ARM, ABORT and CLEAR (R65 to R70, R88, R89) -/

theorem orderArm_swaps {s : State} (state : s.heat.state = .idle ∨ s.heat.state = .armed ∨ s.heat.state = .closed)
    (chain : bankChainOpen s = false) (noSwap : s.banks.pendingSwap = false) (valid : validateBank s.standbyBank = none) :
    orderArm s = (swapBanks s, plain .ok) := by
  unfold orderArm
  rcases state with state | state | state <;> simp [state, chain, noSwap, valid]

/-- Settles O46: ARM answers alone, marks the swap, or makes it and announces it. -/
theorem armSwapsOrPends : Obligations.ArmSwapsOrPends := by
  intro now src tag s served free v answer other
  have place := free.placeMade
  have keeps (b : BoardTransmitter) : ((ownerTurn now s).setBoard b).heat = s.heat := ownerTurn_heat now s
  have chains (b : BoardTransmitter) : bankChainOpen ((ownerTurn now s).setBoard b) = bankChainOpen s :=
    bankChainOpen_ownerTurn now s
  have banks (b : BoardTransmitter) : ((ownerTurn now s).setBoard b).banks = s.banks := ownerTurn_banks now s
  have standby (b : BoardTransmitter) : ((ownerTurn now s).setBoard b).standbyBank = s.standbyBank := by
    unfold State.standbyBank
    rw [banks]
  have answers {status : Status} (decided : ∀ b : BoardTransmitter,
      orderArm ((ownerTurn now s).setBoard b) = ((ownerTurn now s).setBoard b, plain status)) :
      exec (.arm now src tag []) s = .next (answered v s.board.queue (answer status)) :=
    congrArg Host.Outcome.next (consoleOrder_owner_effect served place (by decide) (by decide) decided
      (ownerTurn_board now s) (congrArg Settings.station (ownerTurn_settings now s)))
  refine ⟨fun busy => answers fun b => ?_, fun calm chain => ⟨fun pending => answers fun b => ?_,
    fun noSwap valid => ⟨fun state => ?_, fun state => ?_⟩⟩⟩
  · unfold orderArm
    rw [keeps, chains, if_pos busy]
  · unfold orderArm
    rw [keeps, chains, banks, if_neg (by simp [calm, chain]), if_pos pending]
  · refine congrArg Host.Outcome.next (consoleOrder_owner_effect (a := plain .ok) served place (by decide) (by decide)
      (fun b => ?_) (ownerTurn_board now s) (congrArg Settings.station (ownerTurn_settings now s)))
    unfold orderArm
    rw [keeps, chains, banks, standby, valid, if_neg (by simp [calm, chain]), if_neg (by simp [noSwap])]
    rcases state with state | state <;> simp only [state] <;> rfl
  · intro w
    have does (b : BoardTransmitter) (roomy : placesTaken b.reserved b.queue + 2 ≤ 32) :
        orderArm ((ownerTurn now s).setBoard b) = (announcedCleared (w.setBoard b), plain .ok) := by
      rw [orderArm_swaps (by rw [keeps]; exact state) (by rw [chains]; exact chain) (by rw [banks]; exact noSwap)
        (by rw [standby]; exact valid), swapBanks_eq, banks]
      exact congrArg (·, plain .ok) (clearLamps_announceHeat (w := w.setBoard b) roomy)
    obtain ⟨t, order, changed⟩ := consoleOrder_owner_changes (src := src) (tag := tag) (code := .arm) (body := []) served free
      (by decide) (by decide) does
      (ownerTurn_board now s) (ownerTurn_settings now s)
    exact ⟨t, congrArg Host.Outcome.next order, changed⟩

theorem orderAbort_changes {s : State} (state : s.heat.state ≠ .idle) : orderAbort s = (abortHeat s, plain .ok) := by
  unfold orderAbort
  split
  · contradiction
  · rfl

theorem orderClear_changes {s : State} (state : s.heat.state = .armed ∨ s.heat.state = .closed) :
    orderClear s = (clearHeat s, plain .ok) := by
  unfold orderClear
  rcases state with state | state <;> simp only [state]

/-- Settles O48: ABORT re-arms the active bank and CLEAR empties the heat, each with its telegrams; or they only answer. -/
theorem abortAndClear : Obligations.AbortAndClear := by
  intro now src tag s served free v unpended answer
  have place := free.placeMade
  have keeps (b : BoardTransmitter) : ((ownerTurn now s).setBoard b).heat = s.heat := ownerTurn_heat now s
  have banks (b : BoardTransmitter) : ((ownerTurn now s).setBoard b).banks = s.banks := ownerTurn_banks now s
  have answers {code : OrderCode} {effect : State → State × Answer} {status : Status}
      (suits : lengthSuits code ([] : List Byte).length = true) (needs : needsChannel code = true)
      (decided : ∀ b : BoardTransmitter,
        effect ((ownerTurn now s).setBoard b) = ((ownerTurn now s).setBoard b, plain status)) :
      Host.Outcome.next (consoleOrder src code tag [] effect (advanceTo now s)) =
        (.next (answered v s.board.queue (answer code status)) : Host.Outcome State Fault Refusal) :=
    congrArg Host.Outcome.next (consoleOrder_owner_effect served place suits needs decided
      (ownerTurn_board now s) (congrArg Settings.station (ownerTurn_settings now s)))
  refine ⟨fun idle => ⟨answers (code := .abort) (by decide) (by decide) fun b => ?_,
    answers (code := .clear) (by decide) (by decide) fun b => ?_⟩, fun busy => ?_, fun ended => ?_,
    fun runs => answers (code := .clear) (by decide) (by decide) fun b => ?_⟩
  · unfold orderAbort
    simp only [keeps, idle]
  · unfold orderClear
    simp only [keeps, idle]
  · intro w
    have does (b : BoardTransmitter) (roomy : placesTaken b.reserved b.queue + 2 ≤ 32) :
        orderAbort ((ownerTurn now s).setBoard b) = (announcedCleared (w.setBoard b), plain .ok) := by
      rw [orderAbort_changes (by rw [keeps]; exact busy), abortHeat_eq, banks]
      exact congrArg (·, plain .ok) (announceHeat_clearLamps (w := w.setBoard b) roomy)
    obtain ⟨t, order, changed⟩ := consoleOrder_owner_changes (src := src) (tag := tag) (code := .abort) (body := []) served
      free (by decide) (by decide) does (ownerTurn_board now s) (ownerTurn_settings now s)
    exact ⟨t, congrArg Host.Outcome.next order, changed⟩
  · intro w
    have does (b : BoardTransmitter) (roomy : placesTaken b.reserved b.queue + 2 ≤ 32) :
        orderClear ((ownerTurn now s).setBoard b) = (announcedCleared (w.setBoard b), plain .ok) := by
      rw [orderClear_changes (by rw [keeps]; exact ended), clearHeat_eq, banks]
      exact congrArg (·, plain .ok) (announceHeat_clearLamps (w := w.setBoard b) roomy)
    obtain ⟨t, order, changed⟩ := consoleOrder_owner_changes (src := src) (tag := tag) (code := .clear) (body := []) served
      free (by decide) (by decide) does (ownerTurn_board now s) (ownerTurn_settings now s)
    exact ⟨t, congrArg Host.Outcome.next order, changed⟩
  · unfold orderClear
    rcases runs with state | state | state <;> simp only [keeps, state]

/-! ### END HEAT and the heat limit (R79, R81 to R83) -/

/-- Entry into CLOSING with a place reserved for the answer to an END HEAT. -/
theorem enterClosing_withPlace {now : Tick} {s : State} (free : PlacesFree 3 s) :
    enterClosing (withPlace (ownerTurn now s)) = ((setStatus .heatChange true (closing now (ownerTurn now s))).setBoard
      { (advanceTo now s).board with
        queue := s.board.queue ++ heatAnnouncement (closing now (ownerTurn now s)), reserved := true }) := by
  have tick : (withPlace (ownerTurn now s)).now = now := ownerTurn_now now s
  have roomy := announceHeat_roomy (s := closing now (withPlace (ownerTurn now s))) (PlacesFree.roomy free rfl)
  rw [enterClosing_eq, tick, roomy]
  refine congrArg (State.setBoard (setStatus .heatChange true (closing now (ownerTurn now s)))) ?_
  change { (ownerTurn now s).board with
    queue := (ownerTurn now s).board.queue ++ heatAnnouncement (closing now (ownerTurn now s)), reserved := true } = _
  rw [ownerTurn_board]
  rfl

/-- Settles O47: the heat enters CLOSING from RUNNING by END HEAT and by the heat limit. -/
theorem heatEntersClosing : Obligations.HeatEntersClosing := by
  intro now src tag s free u v answer
  refine ⟨fun served => ⟨fun running => ?_, fun swum => ?_, fun early => ?_⟩, fun timer runs ends running => ?_,
    fun timer runs ends => congrArg Host.Outcome.next (if_pos (runs ▸ expired_some ends))⟩
  · have does : orderEndh (withPlace (ownerTurn now s)) = (enterClosing (withPlace (ownerTurn now s)), plain .ok) := by
      have state : (withPlace (ownerTurn now s)).heat.state = .running :=
        (congrArg HeatController.state (ownerTurn_heat now s)).trans running
      unfold orderEndh
      simp only [state]
    rw [enterClosing_withPlace free] at does
    refine congrArg Host.Outcome.next ((consoleOrder_owner_adds served free (by decide) (by decide) does rfl
      (congrArg Settings.station (ownerTurn_settings now s))).trans ?_)
    have board : (closing now v).board = (advanceTo now s).board := ownerTurn_board now s
    unfold changedWith
    rw [board]
    rfl
  · refine congrArg Host.Outcome.next (consoleOrder_owner_effect (a := plain .ok) served free.placeMade (by decide)
      (by decide) (fun b => ?_) (ownerTurn_board now s) (congrArg Settings.station (ownerTurn_settings now s)))
    have keeps : ((ownerTurn now s).setBoard b).heat = s.heat := ownerTurn_heat now s
    unfold orderEndh
    rcases swum with state | state <;> simp only [keeps, state, v]
  · refine congrArg Host.Outcome.next (consoleOrder_owner_effect (a := plain .busy) served free.placeMade (by decide)
      (by decide) (fun b => ?_) (ownerTurn_board now s) (congrArg Settings.station (ownerTurn_settings now s)))
    have keeps : ((ownerTurn now s).setBoard b).heat = s.heat := ownerTurn_heat now s
    unfold orderEndh
    rcases early with state | state | state <;> simp only [keeps, state, v]
  · obtain ⟨unreserved, room⟩ := free
    have enters : enterClosing (u.setClock { u.clock with heatLimit := none }) = announceHeat (closing now u) :=
      enterClosing_eq _
    refine congrArg Host.Outcome.next ((if_pos (runs ▸ expired_some ends)).trans ((if_pos running).trans ?_))
    exact enters.trans (announceHeat_free (s := closing now u) ⟨unreserved, Nat.le_trans (Nat.add_le_add_left (by decide) _) room⟩)

end Sys2Proof.Machine
end
section
/-! The clock step, the result hold (R45, R69, R87) and TIMING RESET (R21, R91, R139, R148, R167). -/

namespace Sys2Proof.Machine

/-! ### Clock steps and the result hold -/

theorem leavesLamps_clearPendingSwap : LeavesLamps clearPendingSwap where
  lamps _ := rfl
  deck _ := rfl
  settings _ := rfl
  setLamps _ _ := rfl
  setDeck _ _ := rfl

theorem announcedCleared_clearPendingSwap (w : State) :
    clearPendingSwap (announcedCleared w) = announcedCleared (clearPendingSwap w) := by
  unfold announcedCleared
  rw [leavesLamps_clearPendingSwap.clearLamps]
  generalize clearLamps w = c
  rfl

/-- A change of heat announced and its lamps cleared, no place being reserved. -/
theorem announcedCleared_changed {w : State} (unreserved : w.board.reserved = false) :
    ChangedWithLamps w (announcedCleared w) (heatAnnouncement w) := by
  have cleared := clearLamps_cleared w
  unfold announcedCleared
  generalize clearLamps w = c at cleared
  refine ⟨cleared.of_fields rfl rfl, ?_⟩
  rw [← unreserved]
  rfl

theorem stepDue_iff (t : StepTimer) : stepDue t = true ↔ 100000 * (t.count + 1) ≤ t.elapsed := by
  have span : Config.clockStepSpan = 100000 := rfl
  unfold stepDue
  rw [decide_eq_true_iff, span, Nat.mul_comm]

/-- The CLOCK of a running or closing heat (table 1-9). -/
theorem clockTelegram_eq {s : State} (racing : s.heat.state = .running ∨ s.heat.state = .closing) (step : Nat) :
    clockTelegram s step = ⟨127, s.settings.station, kindClock,
      [if s.heat.state = .running then 3 else 4] ++ be32 (BitVec.ofNat 32 step)⟩ := by
  unfold clockTelegram
  rcases racing with state | state <;> rw [state] <;> rfl

/-- Settles O53: a due clock step counts and offers its CLOCK, and the result hold applies the pending swap. -/
theorem clockStepsAndHoldExpire : Obligations.ClockStepsAndHoldExpire := by
  refine ⟨fun now s timer runs => ?_, fun now s timer runs ends pending free => ?_⟩
  · intro u stepped
    have step : exec (.clockStepExpiry now) s = .next (if stepDue timer then deliverStep timer u else u) := by
      change execClockStepExpiry now s = _
      unfold execClockStepExpiry
      simp only [runs]
      rfl
    refine ⟨fun early => ?_, fun due => ⟨fun racing free => ?_, fun notRunning notClosing => ?_⟩⟩
    · rw [step, if_neg (mt (stepDue_iff timer).mp (Nat.not_le.mpr early))]
    · rw [step, if_pos ((stepDue_iff timer).mpr due)]
      refine congrArg Host.Outcome.next ((if_pos racing).trans ((offer_free (s := stepped) (placesFree_one free)
        (fun h => nomatch (h : kindClock = kindSplit))).trans ?_))
      exact congrArg (fun t => stepped.setBoard { u.board with queue := s.board.queue ++ [t] })
        (clockTelegram_eq (s := stepped) racing (timer.count + 1))
    · rw [step, if_pos ((stepDue_iff timer).mpr due)]
      exact congrArg Host.Outcome.next (if_neg fun racing => racing.elim notRunning notClosing)
  · intro u other w
    obtain ⟨unreserved, room⟩ := free
    have roomy : placesTaken s.board.reserved s.board.queue + 2 ≤ 32 := by
      have room' : s.board.queue.length + 2 ≤ 32 := room
      unfold placesTaken
      rw [unreserved]
      exact room'
    refine ⟨announcedCleared w, congrArg Host.Outcome.next ((if_pos (runs ▸ expired_some ends)).trans
      ((if_pos pending).trans ?_)), announcedCleared_changed unreserved⟩
    refine (congrArg clearPendingSwap ((swapBanks_eq _).trans (clearLamps_announceHeat (by exact roomy)))).trans ?_
    exact announcedCleared_clearPendingSwap _

end Sys2Proof.Machine
end
section
/-! TIMING RESET (R21, R91, R139, R148, R167). -/

namespace Sys2Proof.Machine

/-! ### The flush of the deck command queue (R21, R148) -/

/-- The state with the deck command queue flushed, each lane's lamp standing as it was last sent. -/
def flushed (s : State) : State :=
  (s.setDeck { s.deck with queue := [], queryOnLine := false }).setLamps
    { s.lamps with records := mapAll s.lamps.records fun r => { r with produced := r.lineState } }

theorem flushDeck_eq (s : State) : flushDeck s = clearLamps (flushed s) := rfl

theorem flushed_records (s : State) : (flushed s).lamps.records =
    mapAll s.lamps.records fun r => { r with produced := r.lineState } := rfl

theorem flushed_record (s : State) (lane : Lane) :
    (flushed s).lamps.records[lane] = { s.lamps.records[lane] with produced := s.lamps.records[lane].lineState } := by
  rw [flushed_records, mapAll_entry]

theorem flushed_fields (s : State) : (flushed s).deck = { s.deck with queue := [], queryOnLine := false }
    ∧ (flushed s).settings = s.settings ∧ (flushed s).lamps.patterns = s.lamps.patterns
    ∧ (flushed s).lamps.sincePhase = s.lamps.sincePhase := ⟨rfl, rfl, rfl, rfl⟩

theorem flushed_frame (s : State) (l : LampGenerator) (d : DeckPoller) :
    ((flushed s).setLamps l).setDeck d = (s.setLamps l).setDeck d := rfl

/-- The telegram is the LAMP off of a lane of `s` that is lit, for its recorded station. -/
def IsOff (s : State) (e : DeckEntry) : Prop :=
  ∃ (l lane : Lane) (station : Byte), e.origin = .lamp l ∧ s.lamps.records[lane].produced = true
    ∧ s.lamps.records[lane].recorded = some station
    ∧ e.telegram = ⟨station, s.settings.station, kindLamp, [0]⟩

/-- Between `s` and `t` lanes have been darkened, and the deck command queue of `t` holds their LAMPs off alone. -/
structure OnlyOffs (s t : State) : Prop where
  lit : ∀ lane : Lane, t.lamps.records[lane].produced = true → s.lamps.records[lane].produced = true
  recorded : ∀ lane : Lane, t.lamps.records[lane].recorded = s.lamps.records[lane].recorded
  settings : t.settings = s.settings
  queue : ∀ e ∈ t.deck.queue, IsOff s e

theorem darkenLamp_settings (lane : Lane) (s : State) : (darkenLamp lane s).settings = s.settings := by
  rw [(darkenLamp_moved lane s).frame]
  rfl

theorem OnlyOffs.darkenLamp {s t : State} (h : OnlyOffs s t) (lane : Lane) : OnlyOffs s (darkenLamp lane t) where
  lit other := by
    rw [darkenLamp_record]
    split
    · exact fun dark => nomatch dark
    · exact h.lit other
  recorded other := by
    rw [darkenLamp_record]
    split
    · next same => exact same ▸ h.recorded lane
    · exact h.recorded other
  settings := (darkenLamp_settings lane t).trans h.settings
  queue e mem := by
    cases lit : t.lamps.records[lane].produced with
    | false =>
      rw [darkenLamp_dark lit] at mem
      exact h.queue e mem
    | true =>
      cases recorded : t.lamps.records[lane].recorded with
      | none =>
        rw [darkenLamp_unrecorded lit recorded] at mem
        exact h.queue e mem
      | some station =>
        rw [darkenLamp_lit lit recorded, produceLamp_queue] at mem
        rcases mem_withLamp mem with rfl | ⟨old, _⟩
        · exact ⟨lane, lane, station, rfl, h.lit lane lit, (h.recorded lane).symm.trans recorded,
            congrArg (fun x : Settings => (⟨station, x.station, kindLamp, [0]⟩ : Telegram)) h.settings⟩
        · exact h.queue e old

theorem unassigned_settings (s : State) : (unassigned s).settings = s.settings := rfl

theorem clearLamps_onlyOffs {s : State} (empty : s.deck.queue = []) : OnlyOffs s (clearLamps s) := by
  have start : OnlyOffs s (unassigned s) := {
    lit := fun lane => by rw [unassigned_record]; exact id
    recorded := fun lane => by rw [unassigned_record]
    settings := unassigned_settings s
    queue := fun e mem => by rw [unassigned_deck, empty] at mem; exact nomatch mem }
  rw [clearLamps_eq]
  generalize unassigned s = t at start
  generalize allLanes = lanes
  induction lanes generalizing t with
  | nil => exact start
  | cons lane lanes ih => exact ih _ (start.darkenLamp lane)

theorem flushDeck_frame (s : State) : flushDeck s = (s.setLamps { s.lamps with records := Vector.ofFn fun lane : Lane =>
      { s.lamps.records[lane] with assignment := none, produced := false } }).setDeck
    { s.deck with queue := (flushDeck s).deck.queue, queryOnLine := false } := by
  have frame := clearLamps_frame (flushed s)
  obtain ⟨patterns, since, deck, records, _, _, _⟩ := clearLamps_cleared (flushed s)
  obtain ⟨ownDeck, _, ownPatterns, ownSince⟩ := flushed_fields s
  have recorded (lane : Lane) : (clearLamps (flushed s)).lamps.records[lane] =
      { s.lamps.records[lane] with assignment := none, produced := false } := by
    rw [records, flushed_record]
  rw [flushDeck_eq]
  rw [ownDeck] at deck
  rw [ownPatterns] at patterns
  rw [ownSince] at since
  generalize clearLamps (flushed s) = t at *
  have lamps : t.lamps = { s.lamps with records := Vector.ofFn fun lane : Lane =>
      { s.lamps.records[lane] with assignment := none, produced := false } } := by
    have all : t.lamps.records = Vector.ofFn fun lane : Lane =>
        { s.lamps.records[lane] with assignment := none, produced := false } := by
      ext1 i h
      rw [Vector.getElem_ofFn]
      exact recorded ⟨i, h⟩
    change (⟨t.lamps.patterns, t.lamps.records, t.lamps.sincePhase⟩ : LampGenerator) = _
    rw [patterns, all, since]
  rw [← lamps, frame, flushed_frame]
  exact congrArg (State.setDeck (s.setLamps t.lamps)) deck

/-! ### TIMING RESET -/

theorem resetHeat_eq (s : State) : resetHeat s =
    emptied (unboosted (timersStopped (s.setBanks { s.banks with pendingSwap := false }))) := by
  unfold resetHeat
  rw [clearBoosts_eq]
  rfl

/-- The orders block at TIMING RESET: nothing of the channel but its owner is left (R167). -/
def channelCleared (o : OrderHandler) : OrderHandler :=
  { o with chain := none, slot := .free, claim := none, handover := none, home := none }

theorem resetOrders_console {s : State} (console : s.orders.owner = .console) :
    resetOrders s = s.setOrders (channelCleared s.orders) := by
  unfold resetOrders
  rw [startHome_eq, if_neg (fun panel => by rw [State.setOrders_orders, console] at panel; exact nomatch panel.2.1)]
  rfl

theorem channelCleared_ownerTurn (now : Tick) (s : State) :
    (ownerTurn now s).setOrders (channelCleared (ownerTurn now s).orders) =
      (advanceTo now s).setOrders (channelCleared (advanceTo now s).orders) := by
  unfold ownerTurn
  rw [noteOwnerOrder_timers]
  rfl

/-- The state that TIMING RESET makes of `u`, but for the board queue, the notices and the flush toward the deck. -/
def heatReset (u : State) : State :=
  (emptied (unboosted (timersStopped (u.setBanks { u.banks with pendingSwap := false })))).setOrders (channelCleared u.orders)

theorem timingReset_console {s : State} (console : s.orders.owner = .console) :
    timingReset s = resetNotices (flushDeck ((heatReset s).setBoard { s.board with queue := [heatSent (heatReset s)] })) := by
  have places : placesTaken s.board.reserved [] < 32 := by
    cases s.board.reserved <;> decide
  have reset : flushBoard (resetHeat (resetOrders s)) = (heatReset s).setBoard { s.board with queue := [] } := by
    rw [resetOrders_console console, resetHeat_eq]
    rfl
  unfold timingReset
  simp only [reset]
  rw [offer_free (s := (heatReset s).setBoard { s.board with queue := [] }) places
    (fun h => nomatch (h : kindHeat = kindSplit)), heatTelegram_eq]
  rfl

theorem nodeLost_unboosted (s : State) : nodeLost (unboosted s).nodes = nodeLost s.nodes := by
  rw [Bool.eq_iff_iff, nodeLost_iff, nodeLost_iff]
  refine exists_congr fun i => ?_
  have entry : (unboosted s).nodes[i] = s.nodes[i].map fun n => { n with run := { n.run with boost := false } } := by
    unfold unboosted
    simp
  rw [entry]
  cases s.nodes[i] <;> simp

theorem ownerTurn_channelCleared (now : Tick) (s : State) :
    channelCleared (ownerTurn now s).orders = channelCleared (advanceTo now s).orders :=
  congrArg State.orders (channelCleared_ownerTurn now s)

theorem heatReset_ownerTurn (now : Tick) (s : State) (b : BoardTransmitter) :
    (heatReset (ownerTurn now s)).setBoard b = (heatReset (advanceTo now s)).setBoard b := by
  have same := ownerTurn_channelCleared now s
  have turn := ownerTurn_eq now s
  generalize (ownerTurn now s).orders = o at same turn
  rw [turn]
  exact congrArg (fun x : OrderHandler => ((heatReset (advanceTo now s)).setOrders x).setBoard b) same

/-- TRST of the owner makes the TIMING RESET, whether a place was free or not (R139). -/
theorem consoleTrst_served {now : Tick} {src tag : Byte} {s : State} (served : ConsoleServed s) :
    ∃ b : BoardTransmitter, b.line = (advanceTo now s).board.line ∧ b.busy = (advanceTo now s).board.busy
      ∧ consoleTrst src tag [] (advanceTo now s) = respondConsole src (orderNumber .trst) tag
        (timingReset ((ownerTurn now s).setBoard b), plain .ok) := by
  cases made : makeRoom s.board.reserved s.board.queue with
  | some room =>
    have reserves : reservePlace (advanceTo now s) =
        some ((advanceTo now s).setBoard { (advanceTo now s).board with queue := room, reserved := true }) := by
      have made' : makeRoom (advanceTo now s).board.reserved (advanceTo now s).board.queue = some room := made
      rw [reservePlace, made']
      rfl
    refine ⟨{ (advanceTo now s).board with queue := room, reserved := true }, rfl, rfl, ?_⟩
    unfold consoleTrst
    rw [reserves]
    exact consoleOrder_owner served made (by decide) (by decide)
  | none =>
    have refuses : reservePlace (advanceTo now s) = none := by
      have made' : makeRoom (advanceTo now s).board.reserved (advanceTo now s).board.queue = none := made
      rw [reservePlace, made']
      rfl
    refine ⟨{ (ownerTurn now s).board with queue := [], reserved := true }, (congrArg BoardTransmitter.line (ownerTurn_board now s) :),
      (congrArg BoardTransmitter.busy (ownerTurn_board now s) :), ?_⟩
    unfold consoleTrst
    rw [refuses]
    unfold trstUnplaced
    rw [gate_owner (code := .trst) (s := advanceTo now s) served (by decide)]
    rfl

/-- What the notices stand at after TIMING RESET (R167). -/
theorem resetNotices_entry (s : State) (k : Fin 12) :
    (k = 9 → (resetNotices s).orders.notices[k] = s.orders.notices[k])
      ∧ (k ≠ 9 → (resetNotices s).orders.notices[k] = { s.orders.notices[k] with status := k == 0 && nodeLost s.nodes }) := by
  unfold resetNotices
  have kept : noticeIndex .configInvalid = 9 := rfl
  have lost : noticeIndex .nodeLost = 0 := rfl
  rw [kept, lost]
  constructor
  · intro is
    simp [is]
  · intro other
    simp [other]

/-- Settles O52: TRST of the owner makes the TIMING RESET, and leaves HEAT and its RESPONSE as the whole board queue. -/
theorem timingResetClearsTheHeat : Obligations.TimingResetClearsTheHeat := by
  intro now src tag s served u w lost lit
  obtain ⟨b, line, busy, taken⟩ := consoleTrst_served (now := now) (src := src) (tag := tag) served
  have console : ((ownerTurn now s).setBoard b).orders.owner = .console := (ownerTurn_owner now s).trans served.2
  have reset : timingReset ((ownerTurn now s).setBoard b) = resetNotices (flushDeck ((heatReset u).setBoard
      { b with queue := [heatSent w] })) := by
    have sent : heatSent (heatReset ((ownerTurn now s).setBoard b)) = heatSent w :=
      (congrArg heatSent (heatReset_ownerTurn now s b) :)
    rw [timingReset_console console, sent]
    exact congrArg (fun x => resetNotices (flushDeck x))
      (heatReset_ownerTurn now s { b with queue := [heatSent w] })
  obtain ⟨r, isR⟩ : ∃ r, r = (heatReset u).setBoard { b with queue := [heatSent w] } := ⟨_, rfl⟩
  have frame := flushDeck_frame r
  have offs : OnlyOffs (flushed r) (flushDeck r) := clearLamps_onlyOffs (congrArg DeckPoller.queue (flushed_fields r).1)
  have cleared := clearLamps_cleared (flushed r)
  have record := flushed_record r
  have settings := (flushed_fields r).2.1
  rw [← flushDeck_eq] at cleared
  rw [reset, ← isR] at taken
  generalize flushDeck r = f at *
  obtain ⟨_, _, _, _, _, queued, _⟩ := cleared
  have lamps : r.lamps = u.lamps := by rw [isR]; rfl
  have own : r.settings = s.settings := by rw [isR]; rfl
  refine ⟨_, congrArg Host.Outcome.next taken, ?_, fun k => ?_, fun lane station isLit recorded => ?_, fun e mem => ?_⟩
  · have board : r.board = { b with queue := [heatSent w] } := by rw [isR]; rfl
    have boards : f.board = r.board := by rw [frame]; rfl
    have station : f.settings.station = s.settings.station := by rw [frame, isR]; rfl
    unfold respondConsole fillReservation responseTelegram
    have boardIs : (resetNotices f).board = { b with queue := [heatSent w] } := boards.trans board
    have stationIs : (resetNotices f).settings.station = s.settings.station := station
    rw [boardIs, stationIs, line, busy]
    obtain ⟨notices, isN⟩ : ∃ N, resetNotices f = f.setOrders { f.orders with notices := N } := ⟨_, rfl⟩
    rw [isN]
    clear queued offs taken isN boardIs stationIs boards station
    generalize f.deck.queue = queue at frame
    subst frame isR
    rfl
  · have notices : f.orders.notices = s.orders.notices := by rw [frame, isR]; rfl
    have nodes : nodeLost f.nodes = nodeLost s.nodes := by
      have same : f.nodes = (unboosted s).nodes := by rw [frame, isR]; rfl
      rw [same, nodeLost_unboosted]
    obtain ⟨kept, others⟩ := resetNotices_entry f k
    rw [notices] at kept others
    refine ⟨kept, fun other => ?_⟩
    have is := others other
    rw [nodes] at is
    have status : (resetNotices f).orders.notices[k].status = true ↔ k = 0 ∧ lost := by
      rw [is]
      simp [lost, ← nodeLost_iff]
    exact ⟨(congrArg Notice.enabled is :), (congrArg Notice.direction is :), status⟩
  · obtain ⟨e, mem, _, telegram⟩ := queued lane station (by rw [record, lamps]; exact isLit) (by rw [record, lamps]; exact recorded)
    rw [settings, own] at telegram
    exact ⟨e, mem, telegram⟩
  · have queue : e ∈ f.deck.queue := mem
    obtain ⟨l, lane, station, origin, produced, recorded, telegram⟩ := offs.queue e queue
    rw [record, lamps] at produced recorded
    rw [settings, own] at telegram
    exact ⟨l, lane, station, origin, produced, recorded, telegram⟩

end Sys2Proof.Machine
end
section
/-! The follow-up of a placing: the telegrams offered and the places handed to the lamps (R116 to R127, R147). -/

namespace Sys2Proof.Machine

/-! ### The hand-off of the places to the lamps (R127, R147) -/

/-- One lane's turn in the hand-off. -/
def handLane (lane : Lane) (s : State) : State :=
  if s.lamps.records[lane].assignment = handedPlace s.lanes[lane] then s
  else evaluateLane lane (setLamp lane { s.lamps.records[lane] with assignment := handedPlace s.lanes[lane] } s)

theorem handOffLamps_eq (s : State) : handOffLamps s = allLanes.foldl (fun s lane => handLane lane s) s := rfl

/-- From `s` to `t` some lanes have been handed their places. -/
structure LampsHanded (lanes : List Lane) (s t : State) : Prop where
  frame : t = lampsAs s t.lamps.records t.deck.queue
  assigned : ∀ lane ∈ lanes, t.lamps.records[lane].assignment = handedPlace s.lanes[lane]
  others : ∀ lane : Lane, lane ∉ lanes → t.lamps.records[lane].assignment = s.lamps.records[lane].assignment

theorem handLane_handed (lane : Lane) (s : State) : LampsHanded [lane] s (handLane lane s) := by
  unfold handLane
  split
  · next same => exact ⟨rfl, fun o mem => List.mem_singleton.mp mem ▸ same, fun _ _ => rfl⟩
  · obtain ⟨u, is⟩ : ∃ u, u = setLamp lane { s.lamps.records[lane] with assignment := handedPlace s.lanes[lane] } s := ⟨_, rfl⟩
    have moved := evaluateLane_moved lane u
    have record (o : Lane) : u.lamps.records[o] = if lane = o then
        { s.lamps.records[lane] with assignment := handedPlace s.lanes[lane] } else s.lamps.records[o] := by
      rw [is, setLamp_record]
    rw [← is]
    refine ⟨?_, fun o mem => ?_, fun o outside => ?_⟩
    · have frame := moved.frame
      generalize evaluateLane lane u = t at frame
      rw [frame, is]
      rfl
    · obtain rfl := List.mem_singleton.mp mem
      rw [moved.assigned, record, if_pos rfl]
    · rw [moved.assigned, record, if_neg fun same => outside (List.mem_singleton.mpr same.symm)]

theorem LampsHanded.foldl (lanes : List Lane) : ∀ s : State, lanes.Nodup →
    LampsHanded lanes s (lanes.foldl (fun s lane => handLane lane s) s) := by
  induction lanes with
  | nil => exact fun s _ => ⟨rfl, fun _ mem => (nomatch mem), fun _ _ => rfl⟩
  | cons lane lanes ih =>
    intro s once
    obtain ⟨away, once⟩ := List.nodup_cons.mp once
    have first := handLane_handed lane s
    have rest := ih (handLane lane s) once
    have same : (handLane lane s).lanes = s.lanes := by
      rw [first.frame]
      rfl
    rw [List.foldl_cons]
    refine ⟨?_, fun o mem => ?_, fun o outside => ?_⟩
    · rw [rest.frame, first.frame]
      rfl
    · by_cases among : o ∈ lanes
      · rw [rest.assigned o among, same]
      · have here : o ∈ [lane] := by simpa [among] using mem
        rw [rest.others o among, first.assigned o here]
    · rw [rest.others o fun among => outside (List.mem_cons_of_mem _ among),
        first.others o fun here => outside (List.mem_singleton.mp here ▸ List.mem_cons_self)]

theorem handOffLamps_handed (s : State) : LampsHanded allLanes s (handOffLamps s) :=
  LampsHanded.foldl allLanes s (List.nodup_finRange 10)

/-! ### What follows a placing -/

/-- `t` is `p` with announcements made and the lamps handed the places of `p`. -/
structure FollowedUp (p t : State) : Prop where
  clock : t.clock = p.clock
  nodes : t.nodes = p.nodes
  filters : t.filters = p.filters
  deck : t.deck = { p.deck with queue := t.deck.queue }
  banks : t.banks = p.banks
  heat : t.heat = p.heat
  lanes : t.lanes = p.lanes
  results : t.results = p.results
  settings : t.settings = p.settings
  loader : t.loader = p.loader
  line : t.board.line = p.board.line
  busy : t.board.busy = p.board.busy
  orders : t.orders = { p.orders with notices := t.orders.notices }
  lamps : LampsFollowPlaces t

theorem handOffLamps_follow (s : State) : LampsFollowPlaces (handOffLamps s) := by
  intro lane
  have handed := handOffLamps_handed s
  have lanes : (handOffLamps s).lanes = s.lanes := by
    have frame := handed.frame
    generalize handOffLamps s = t at frame
    rw [frame]
    rfl
  rw [handed.assigned lane (List.mem_finRange lane), lanes]
  rfl

theorem FollowedUp.handOffLamps {p m : State} (h : OnlyAnnounces p m) : FollowedUp p (handOffLamps m) := by
  have follow := handOffLamps_follow m
  have frame := (handOffLamps_handed m).frame
  generalize Machine.handOffLamps m = t at *
  generalize t.lamps.records = records, isQ : t.deck.queue = queue at frame
  subst frame
  exact ⟨h.clock, h.nodes, h.filters, congrArg (fun d : DeckPoller => { d with queue := queue }) h.deck, h.banks, h.heat,
    h.lanes, h.results, h.settings, h.loader, h.line, h.busy, h.orders, follow⟩

theorem FollowedUp.announce {p t u : State} (h : FollowedUp p t) (k : OnlyAnnounces t u) : FollowedUp p u where
  clock := k.clock.trans h.clock
  nodes := k.nodes.trans h.nodes
  filters := k.filters.trans h.filters
  deck := by rw [k.deck]; exact h.deck
  banks := k.banks.trans h.banks
  heat := k.heat.trans h.heat
  lanes := k.lanes.trans h.lanes
  results := k.results.trans h.results
  settings := k.settings.trans h.settings
  loader := k.loader.trans h.loader
  line := k.line.trans h.line
  busy := k.busy.trans h.busy
  orders := by rw [k.orders, h.orders]
  lamps := by
    unfold LampsFollowPlaces
    rw [k.lamps, k.lanes]
    exact h.lamps

/-! ### Telegrams offered for lanes -/

theorem offerEach_free {telegram : State → Lane → Telegram} (kind : ∀ s lane, (telegram s lane).kind ≠ kindSplit)
    (still : ∀ s b lane, telegram (State.setBoard s b) lane = telegram s lane) (lanes : List Lane) {s : State}
    (room : placesTaken s.board.reserved s.board.queue + lanes.length ≤ 32) : offerEach telegram lanes s =
      s.setBoard { s.board with queue := s.board.queue ++ lanes.map (telegram s) } := by
  induction lanes generalizing s with
  | nil =>
    rw [List.map_nil, List.append_nil]
    rfl
  | cons lane lanes ih =>
    have one : placesTaken s.board.reserved s.board.queue < 32 := by
      rw [List.length_cons] at room
      omega
    have next : placesTaken s.board.reserved (s.board.queue ++ [telegram s lane]) + lanes.length ≤ 32 := by
      unfold placesTaken at room ⊢
      rw [List.length_cons] at room
      rw [List.length_append, List.length_singleton]
      omega
    have offered := offer_free (t := telegram s lane) one (kind s lane)
    have rest := ih (s := s.setBoard { s.board with queue := s.board.queue ++ [telegram s lane] }) next
    unfold offerEach at rest ⊢
    rw [List.foldl_cons, offered, rest]
    have same : telegram (s.setBoard { s.board with queue := s.board.queue ++ [telegram s lane] }) = telegram s :=
      funext fun o => still s _ o
    rw [same, List.map_cons]
    exact congrArg (fun q => s.setBoard { s.board with queue := q })
      (List.append_assoc s.board.queue [telegram s lane] (lanes.map (telegram s)))

/-- A list of lanes, each once, and behind it the lanes that it leaves out. -/
theorem listed_length {order : List Lane} (once : order.Nodup) :
    (order ++ allLanes.filter fun lane => !order.contains lane).length ≤ 10 := by
  have listed : (order ++ allLanes.filter fun lane => !order.contains lane).Nodup := by
    refine List.nodup_append.mpr ⟨once, (List.nodup_finRange 10).filter _, fun a mem b other => ?_⟩
    rintro rfl
    have away := (List.mem_filter.mp other).2
    simp [mem] at away
  have all := length_le_of_subset (whole := allLanes) listed fun lane _ => List.mem_finRange lane
  rwa [allLanes, List.length_finRange] at all

theorem movedLanes_length {before : Vector LaneRecord 10} {finisher : Option Lane} {s : State}
    (once : s.results.order.Nodup) : (movedLanes before finisher s).length ≤ 10 :=
  Nat.le_trans (List.length_filter_le _ _) (listed_length once)

theorem placesMoved_length {s t : State} (once : t.results.order.Nodup) : (placesMoved s t).length ≤ 10 :=
  Nat.le_trans (List.length_filter_le _ _) (listed_length once)

theorem occupiedLanes_length (s : State) : (allLanes.filter fun lane => occupied s.lanes[lane]).length ≤ 10 :=
  Nat.le_trans (List.length_filter_le _ _) (Nat.le_of_eq (List.length_finRange (n := 10)))

theorem offerResults_free {s : State} (room : placesTaken s.board.reserved s.board.queue + 10 ≤ 32) : offerResults s =
    s.setBoard { s.board with queue := s.board.queue ++
      (allLanes.filter fun lane => occupied s.lanes[lane]).map (resultTelegram s) } :=
  offerEach_free (fun _ _ h => nomatch (h : kindResult = kindSplit)) (fun _ _ _ => rfl) _
    (Nat.le_trans (Nat.add_le_add_left (occupiedLanes_length s) _) room)

theorem offerPlaces_free {s : State} {lanes : List Lane} (room : placesTaken s.board.reserved s.board.queue + lanes.length ≤ 32) :
    offerEach placeTelegram lanes s = s.setBoard { s.board with queue := s.board.queue ++ lanes.map (placeTelegram s) } :=
  offerEach_free (fun _ _ h => nomatch (h : kindPlace = kindSplit)) (fun _ _ _ => rfl) _ room

/-! ### An owner's order, whatever it adds to the board queue -/

theorem consoleOrder_owner_queue {now : Tick} {src tag : Byte} {code : OrderCode} {body : List Byte}
    {effect : State → State × Answer} {s e : State} {room : List Telegram} {a : Answer} (served : ConsoleServed s)
    (place : PlaceMade s room) (suits : lengthSuits code body.length = true) (needs : needsChannel code = true)
    (does : effect ((ownerTurn now s).setBoard { (ownerTurn now s).board with queue := room, reserved := true }) = (e, a))
    (line : e.board.line = (ownerTurn now s).board.line) (busy : e.board.busy = (ownerTurn now s).board.busy)
    (station : e.settings = (ownerTurn now s).settings) :
    consoleOrder src code tag body effect (advanceTo now s) = e.setBoard { (ownerTurn now s).board with
      queue := e.board.queue ++ [response s src tag code a.status a.reason a.body], reserved := false } := by
  rw [ownerTurn_board] at does
  rw [consoleOrder_owner served place suits needs, does]
  unfold respondConsole fillReservation responseTelegram response responsePayload
  rw [station, ownerTurn_settings]
  exact congrArg_both (fun x y => e.setBoard
    ⟨e.board.queue ++ [response s src tag code a.status a.reason a.body], false, x, y⟩) line busy

/-- A board queue in which places are free holds its telegrams when a place is made. -/
theorem PlaceMade.same {n : Nat} {s : State} {room : List Telegram} (place : PlaceMade s room) (free : PlacesFree (n + 1) s) :
    room = s.board.queue := Option.some.inj (place.symm.trans free.placeMade)

/-! ### A lane record changed, and the lanes placed anew (R114 to R117, R124 to R127) -/

/-- `e` is `y` with one lane record changed, the lanes placed anew, announcements made and the lamps handed the places. The
heat, its timers, the result revision and the board queue stand apart. -/
structure PlacedAnew (y : State) (lane : Lane) (r : LaneRecord) (e : State) : Prop where
  own : e.lanes[lane] = { r with place := e.lanes[lane].place }
  others : ∀ o : Lane, o ≠ lane → e.lanes[o] = { y.lanes[o] with place := e.lanes[o].place }
  placed : Placed y.heat.state e.lanes e.results.order
  lamps : LampsFollowPlaces e
  nodes : e.nodes = y.nodes
  filters : e.filters = y.filters
  banks : e.banks = y.banks
  settings : e.settings = y.settings
  loader : e.loader = y.loader
  line : e.board.line = y.board.line
  busy : e.board.busy = y.board.busy
  orders : e.orders = { y.orders with notices := e.orders.notices }

/-- The lane records and results of a state placed anew, before the telegrams. -/
structure PlacingOf (y : State) (lane : Lane) (r : LaneRecord) (p : State) : Prop where
  frame : p = (y.setLanes p.lanes).setResults p.results
  record : ∀ o : Lane, p.lanes[o] = { (if lane = o then r else y.lanes[o]) with place := p.lanes[o].place }
  placed : Placed y.heat.state p.lanes p.results.order

theorem PlacingOf.followed {y p e : State} {lane : Lane} {r : LaneRecord} (h : PlacingOf y lane r p) (k : FollowedUp p e) :
    PlacedAnew y lane r e := by
  have frame := h.frame
  have lanes (o : Lane) : e.lanes[o] = { (if lane = o then r else y.lanes[o]) with place := e.lanes[o].place } := by
    rw [k.lanes]
    exact h.record o
  constructor
  case own =>
    have own := lanes lane
    rwa [if_pos rfl] at own
  case others =>
    intro o other
    have here := lanes o
    rwa [if_neg other.symm] at here
  case placed =>
    rw [k.lanes, k.results]
    exact h.placed
  case lamps => exact k.lamps
  case nodes => exact k.nodes.trans (by rw [frame]; rfl)
  case filters => exact k.filters.trans (by rw [frame]; rfl)
  case banks => exact k.banks.trans (by rw [frame]; rfl)
  case settings => exact k.settings.trans (by rw [frame]; rfl)
  case loader => exact k.loader.trans (by rw [frame]; rfl)
  case line => exact k.line.trans (by rw [frame]; rfl)
  case busy => exact k.busy.trans (by rw [frame]; rfl)
  case orders => exact k.orders.trans (by rw [frame]; rfl)

theorem setLane_heat (lane : Lane) (r : LaneRecord) (s : State) : (setLane lane r s).heat = s.heat := rfl

theorem runPlacing_of (y : State) (lane : Lane) (r : LaneRecord) : PlacingOf y lane r (runPlacing (setLane lane r y)) where
  frame := rfl
  record o := by rw [runPlacing_lane, setLane_lane]
  placed := (placingRule (setLane lane r y)).1

/-- A revision of the results of a closed heat, before its telegrams (R124 to R126). -/
def revised (s : State) : State :=
  (runPlacing s).setResults { (runPlacing s).results with revision := min 255 (s.results.revision + 1) }

theorem reviseResults_eq (s : State) : reviseResults s = handOffLamps (offerResults (revised s)) := rfl

theorem revised_of (y : State) (lane : Lane) (r : LaneRecord) : PlacingOf y lane r (revised (setLane lane r y)) where
  frame := rfl
  record := (runPlacing_of y lane r).record
  placed := (runPlacing_of y lane r).placed

theorem handOffLamps_board (s : State) : (handOffLamps s).board = s.board := by
  have frame := (handOffLamps_handed s).frame
  generalize handOffLamps s = t at frame
  rw [frame]
  rfl

theorem resultSent_of {p t : State} (lanes : t.lanes = p.lanes) (results : t.results = p.results)
    (settings : t.settings = p.settings) : resultSent t = resultSent p := by
  funext lane
  unfold resultSent boardSent
  rw [lanes, results, settings]

theorem placeSent_of {p t : State} (lanes : t.lanes = p.lanes) (settings : t.settings = p.settings) :
    placeSent t = placeSent p := by
  funext lane
  unfold placeSent boardSent
  rw [lanes, settings]

/-- A change of a lane record in a closed heat, with the revision it makes. -/
theorem reviseResults_placed {y e : State} {lane : Lane} {r : LaneRecord} (is : e = reviseResults (setLane lane r y)) :
    PlacedAnew y lane r e ∧ e.heat = y.heat ∧ e.clock = y.clock
      ∧ e.results.revision = min 255 (y.results.revision + 1)
      ∧ (placesTaken y.board.reserved y.board.queue + 10 ≤ 32 → e.board.queue = y.board.queue ++
        (allLanes.filter fun o => (if lane = o then r else y.lanes[o]).state != .vacant).map (resultSent e)) := by
  obtain ⟨p, isP⟩ : ∃ p, p = revised (setLane lane r y) := ⟨_, rfl⟩
  have placing : PlacingOf y lane r p := isP ▸ revised_of y lane r
  have frame := placing.frame
  have revision : p.results.revision = min 255 (y.results.revision + 1) := by
    rw [isP]
    rfl
  have e' : e = handOffLamps (offerResults p) := by rw [is, reviseResults_eq, isP]
  have followed : FollowedUp p e := e' ▸ .handOffLamps (offerResults_onlyAnnounces p)
  have telegrams : resultSent e = resultSent p := resultSent_of followed.lanes followed.results followed.settings
  have lanes : (fun o : Lane => occupied p.lanes[o]) = fun o : Lane => (if lane = o then r else y.lanes[o]).state != .vacant := by
    funext o
    rw [placing.record]
    rfl
  have board : p.board = y.board := by
    rw [frame]
    rfl
  refine ⟨placing.followed followed, followed.heat.trans (by rw [frame]; rfl), followed.clock.trans (by rw [frame]; rfl),
    (congrArg ResultUnit.revision followed.results).trans revision, fun room => ?_⟩
  have sent : (offerResults p).board.queue = y.board.queue ++
      (allLanes.filter fun o => occupied p.lanes[o]).map (resultTelegram p) := by
    rw [offerResults_free (by rw [board]; exact room), board]
    rfl
  have bytes : resultTelegram p = resultSent p := funext (resultTelegram_eq p)
  rw [telegrams, e', handOffLamps_board, sent, bytes, lanes]

/-- Another board block before and behind a placing. -/
theorem PlacedAnew.setBoard {v e : State} {lane : Lane} {r : LaneRecord} {b c : BoardTransmitter}
    (h : PlacedAnew (v.setBoard b) lane r e) (line : c.line = v.board.line) (busy : c.busy = v.board.busy) :
    PlacedAnew v lane r (e.setBoard c) :=
  ⟨h.own, h.others, h.placed, h.lamps, h.nodes, h.filters, h.banks, h.settings, h.loader, line, busy, h.orders⟩

/-- The state in which an owner's order is carried out: the place of its answer made and reserved (R137). -/
def roomMade (now : Tick) (s : State) (room : List Telegram) : State :=
  (ownerTurn now s).setBoard { (ownerTurn now s).board with queue := room, reserved := true }

/-- An owner's order that changes a lane record and revises the results of a closed heat. -/
theorem consoleOrder_owner_revises {now : Tick} {src tag : Byte} {code : OrderCode} {body : List Byte}
    {effect : State → State × Answer} {s : State} {room : List Telegram} {lane : Lane} {r : LaneRecord}
    (served : ConsoleServed s) (place : PlaceMade s room) (suits : lengthSuits code body.length = true)
    (needs : needsChannel code = true)
    (does : effect (roomMade now s room) = (reviseResults (setLane lane r (roomMade now s room)), plain .ok)) :
    ∃ t queue, consoleOrder src code tag body effect (advanceTo now s) = t
      ∧ t.board = { (ownerTurn now s).board with
          queue := queue ++ [response s src tag code .ok 0 []], reserved := false }
      ∧ PlacedAnew (ownerTurn now s) lane r t ∧ t.heat = s.heat ∧ t.clock = (ownerTurn now s).clock
      ∧ t.results.revision = min 255 (s.results.revision + 1)
      ∧ (PlacesFree 11 s → queue = s.board.queue ++
        (allLanes.filter fun o => (if lane = o then r else s.lanes[o]).state != .vacant).map (resultSent t)) := by
  generalize isE : reviseResults (setLane lane r (roomMade now s room)) = e at does
  obtain ⟨placed, heat, clock, revision, queue⟩ := reviseResults_placed isE.symm
  clear isE
  have sent := consoleOrder_owner_queue (src := src) (tag := tag) served place suits needs does placed.line placed.busy placed.settings
  refine ⟨_, e.board.queue, sent, rfl, placed.setBoard rfl rfl, heat.trans (ownerTurn_heat now s), clock,
    revision.trans ?_, fun free => ?_⟩
  · exact congrArg (fun x : ResultUnit => min 255 (x.revision + 1)) (ownerTurn_results now s)
  · have same := place.same free
    have free' : s.board.queue.length + 11 ≤ 32 := free.2
    have room' : placesTaken true room + 10 ≤ 32 := by
      rw [same]
      simp [placesTaken]
      omega
    refine (queue room').trans ?_
    have lanes : (roomMade now s room).lanes = s.lanes := ownerTurn_lanes now s
    rw [lanes]
    exact congrArg (· ++ _) same

/-! ### SRC (R123, R124) -/

section
variable {body : List Byte} {l : Lane} {source : Source} {s : State} (lane : laneOf (byteAt body 0) = some l)
  (named : sourceOf (byteAt body 1) = some source)
include lane named

theorem orderSrc_busy (state : s.heat.state ≠ .closed) : orderSrc body s = (s, plain .busy) := by
  unfold orderSrc
  rw [lane, named]
  exact if_pos state

theorem orderSrc_noData (state : s.heat.state = .closed)
    (without : s.lanes[l].state = .vacant ∨ sourceTime s.lanes[l] source = none) : orderSrc body s = (s, plain .noData) := by
  unfold orderSrc
  rw [lane, named]
  refine (if_neg (not_not_intro state)).trans ?_
  rcases without with vacant | none
  · exact if_pos vacant
  · rw [none]
    exact ite_self _

theorem orderSrc_timed {time : Int} (state : s.heat.state = .closed) (swims : s.lanes[l].state ≠ .vacant)
    (is : sourceTime s.lanes[l] source = some time) : orderSrc body s =
      if s.lanes[l].source = source then (s, plain .ok)
      else (reviseResults (setLane l { s.lanes[l] with official := some time, source := source } s), plain .ok) := by
  unfold orderSrc
  rw [lane, named]
  refine (if_neg (not_not_intro state)).trans ((if_neg swims).trans ?_)
  rw [is]

end

/-- Settles O50: SRC answers alone, or takes the source's time and revises the results. -/
theorem srcChangesSource : Obligations.SrcChangesSource := by
  intro now src tag lane source s room served place v answer Answered Names
  have heat (b : BoardTransmitter) : ((ownerTurn now s).setBoard b).heat = s.heat := ownerTurn_heat now s
  have lanes (b : BoardTransmitter) : ((ownerTurn now s).setBoard b).lanes = s.lanes := ownerTurn_lanes now s
  have answers {a : Answer} (suits : lengthSuits .src [lane, source].length = true) (decided : ∀ b : BoardTransmitter,
      orderSrc [lane, source] ((ownerTurn now s).setBoard b) = ((ownerTurn now s).setBoard b, a)) :
      exec (.src now src tag [lane, source]) s =
        .next (answered v room (response s src tag .src a.status a.reason a.body)) :=
    congrArg Host.Outcome.next (consoleOrder_owner_effect served place suits (by decide) decided
      (ownerTurn_board now s) (congrArg Settings.station (ownerTurn_settings now s)))
  refine ⟨fun above => answers (a := refuse 1) rfl fun b => ?_, fun l is => ⟨fun notPad notBackup =>
    answers (a := refuse 2) rfl fun b => ?_, fun named names => ?_⟩⟩
  · have none : laneOf (byteAt [lane, source] 0) = none := laneOf_above above
    unfold orderSrc
    rw [none]
  · have here : laneOf (byteAt [lane, source] 0) = some l := (congrArg laneOf is).trans (laneOf_byteOf l)
    have none : sourceOf (byteAt [lane, source] 1) = none := (if_neg notPad).trans (if_neg notBackup)
    unfold orderSrc
    rw [here, none]
  · intro time
    have here : laneOf (byteAt [lane, source] 0) = some l := (congrArg laneOf is).trans (laneOf_byteOf l)
    have names' : sourceOf (byteAt [lane, source] 1) = some named ∧ sourceTime s.lanes[l] named = time := by
      rcases names with ⟨code, rfl⟩ | ⟨code, rfl⟩ <;> subst code <;> exact ⟨rfl, rfl⟩
    obtain ⟨sourceIs, timeIs⟩ := names'
    refine ⟨fun state => answers (a := plain .busy) rfl fun b => ?_, fun state without => answers (a := plain .noData) rfl fun b => ?_,
      fun state swims timed same => answers (a := plain .ok) rfl fun b => ?_, fun state swims timed differs => ?_⟩
    · exact orderSrc_busy here sourceIs (by rw [heat]; exact state)
    · exact orderSrc_noData here sourceIs (by rw [heat]; exact state) (by rw [lanes, timeIs]; exact without)
    · obtain ⟨t, isT⟩ := Option.ne_none_iff_exists'.mp timed
      rw [orderSrc_timed here sourceIs (by rw [heat]; exact state) (by rw [lanes]; exact swims)
        (by rw [lanes, timeIs]; exact isT), lanes, if_pos same]
    · obtain ⟨t, isT⟩ := Option.ne_none_iff_exists'.mp timed
      have lanesY : (roomMade now s room).lanes = s.lanes := lanes _
      have does : orderSrc [lane, source] (roomMade now s room) = (reviseResults (setLane l
          { s.lanes[l] with official := some t, source := named } (roomMade now s room)), plain .ok) := by
        rw [orderSrc_timed here sourceIs (by unfold roomMade; rw [heat]; exact state) (by rw [lanesY]; exact swims)
          (by rw [lanesY, timeIs]; exact isT), lanesY, if_neg differs]
      obtain ⟨e, queue, sent, board, placed, heatE, clock, revision, telegrams⟩ :=
        consoleOrder_owner_revises (src := src) (tag := tag) (code := .src) (body := [lane, source])
          served place rfl (by decide) does
      rw [← isT] at placed
      refine ⟨e, queue, congrArg Host.Outcome.next sent, board, placed.own, fun o other => ?others, ?placed, placed.lamps,
        revision, fun free => ?queue, heatE, clock, placed.nodes.trans (ownerTurn_nodes now s),
        placed.banks.trans (ownerTurn_banks now s), placed.filters.trans (ownerTurn_filters now s),
        placed.settings.trans (ownerTurn_settings now s), placed.loader.trans (ownerTurn_loader now s), placed.orders⟩
      case others =>
        rw [← ownerTurn_lanes now s]
        exact placed.others o other
      case placed =>
        have is := placed.placed
        rwa [ownerTurn_heat, state] at is
      case queue =>
        rw [telegrams free]
        have lanesAre : (fun o : Lane => (if l = o then
            { s.lanes[l] with official := some t, source := named } else s.lanes[o]).state != .vacant) =
            fun o : Lane => s.lanes[o].state != .vacant := by
          funext o
          split
          · next same => rw [← same]
          · rfl
        rw [lanesAre]

end Sys2Proof.Machine
end
section
/-! The provisional placing, the end of swimming, and MARK (R80, R83, R112, R116 to R118). -/

namespace Sys2Proof.Machine

/-! ### The provisional placing (R116, R117) -/

/-- The state when the FINISH of a finisher has been offered. -/
def finishOffered (finisher : Option Lane) (p : State) : State :=
  match finisher with
  | some lane => offer (finishTelegram p lane) p
  | none => p

theorem finishOffered_onlyAnnounces (finisher : Option Lane) (p : State) : OnlyAnnounces p (finishOffered finisher p) := by
  cases finisher with
  | none => exact .refl p
  | some lane => exact offer_onlyAnnounces _ p

theorem placeProvisionally_eq (finisher : Option Lane) (s : State) : placeProvisionally finisher s =
    handOffLamps (offerEach placeTelegram (movedLanes s.lanes finisher (runPlacing s)) (finishOffered finisher (runPlacing s))) := by
  cases finisher <;> rfl

theorem finishOffered_free {finisher : Option Lane} {p : State} (room : placesTaken p.board.reserved p.board.queue < 32) :
    finishOffered finisher p = p.setBoard { p.board with
      queue := p.board.queue ++ finisher.toList.map (finishSent p) } := by
  cases finisher with
  | none =>
    rw [Option.toList_none, List.map_nil, List.append_nil]
    rfl
  | some lane =>
    rw [← funext (finishTelegram_eq p)]
    exact offer_free room fun h => nomatch (h : kindFinish = kindSplit)

theorem finishSent_of {p t : State} (lanes : t.lanes = p.lanes) (settings : t.settings = p.settings) :
    finishSent t = finishSent p := by
  funext lane
  unfold finishSent boardSent
  rw [lanes, settings]

/-- The lanes whose place has changed, but for the finisher, are those of the PLACE telegrams. -/
theorem movedLanes_eq {before : Vector LaneRecord 10} {finisher : Option Lane} {s p t : State}
    (places : ∀ o : Lane, before[o].place = s.lanes[o].place) (lanes : t.lanes = p.lanes) (results : t.results = p.results) :
    movedLanes before finisher p = (placesMoved s t).filter fun o => some o != finisher := by
  unfold movedLanes placesMoved
  rw [lanes, results, List.filter_filter]
  refine List.filter_congr fun o _ => ?_
  rw [places]

theorem handOffLamps_orders (s : State) : (handOffLamps s).orders = s.orders := by
  have frame := (handOffLamps_handed s).frame
  generalize handOffLamps s = t at frame
  rw [frame]
  rfl

/-- A change of a lane record with the provisional placing behind it. -/
theorem placeProvisionally_placed {y e : State} {lane : Lane} {r : LaneRecord} {finisher : Option Lane}
    (place : r.place = y.lanes[lane].place) (is : e = placeProvisionally finisher (setLane lane r y)) :
    PlacedAnew y lane r e ∧ e.heat = y.heat ∧ e.clock = y.clock ∧ e.results.revision = y.results.revision
      ∧ (placesTaken y.board.reserved y.board.queue + 11 ≤ 32 → e.orders = y.orders ∧ e.board = { y.board with
        queue := y.board.queue ++ finisher.toList.map (finishSent e)
          ++ ((placesMoved y e).filter fun o => some o != finisher).map (placeSent e) }) := by
  obtain ⟨p, isP⟩ : ∃ p, p = runPlacing (setLane lane r y) := ⟨_, rfl⟩
  have placing : PlacingOf y lane r p := isP ▸ runPlacing_of y lane r
  have frame := placing.frame
  have revision : p.results.revision = y.results.revision := by
    rw [isP]
    rfl
  obtain ⟨lanes, isL⟩ : ∃ l, l = movedLanes (setLane lane r y).lanes finisher p := ⟨_, rfl⟩
  have e' : e = handOffLamps (offerEach placeTelegram lanes (finishOffered finisher p)) := by
    rw [is, placeProvisionally_eq, isL, isP]
  have followed : FollowedUp p e :=
    e' ▸ .handOffLamps ((finishOffered_onlyAnnounces finisher p).trans (offerEach_onlyAnnounces _ _ _))
  have board : p.board = y.board := by
    rw [frame]
    rfl
  refine ⟨placing.followed followed, followed.heat.trans (by rw [frame]; rfl), followed.clock.trans (by rw [frame]; rfl),
    (congrArg ResultUnit.revision followed.results).trans revision, fun room => ?_⟩
  have short : lanes.length ≤ 10 := isL ▸ movedLanes_length placing.placed.2.2.1
  have first := finishOffered_free (finisher := finisher) (p := p) (by rw [board]; omega)
  have moved : lanes = (placesMoved y e).filter fun o => some o != finisher := by
    refine isL.trans (movedLanes_eq (fun o => ?_) followed.lanes followed.results)
    rw [setLane_lane]
    split
    · next same => rw [place, same]
    · rfl
  have behind := offerPlaces_free (lanes := lanes) (s := p.setBoard { p.board with
    queue := p.board.queue ++ finisher.toList.map (finishSent p) }) (by
      have one : (finisher.toList.map (finishSent p)).length ≤ 1 := by cases finisher <;> simp
      have here : placesTaken p.board.reserved (p.board.queue ++ finisher.toList.map (finishSent p)) ≤
          placesTaken p.board.reserved p.board.queue + 1 := by
        unfold placesTaken
        rw [List.length_append]
        omega
      rw [board] at here
      rw [State.setBoard_board, board]
      dsimp only
      omega)
  have board' := (congrArg State.board e').trans (handOffLamps_board _)
  have orders' := (congrArg State.orders e').trans (handOffLamps_orders _)
  rw [first, behind] at board' orders'
  refine ⟨orders'.trans (by rw [frame]; rfl), board'.trans ?_⟩
  have finishes : finishSent e = finishSent p := finishSent_of followed.lanes followed.settings
  have places : placeSent e = placeTelegram p :=
    (placeSent_of followed.lanes followed.settings).trans (funext (placeTelegram_eq p)).symm
  rw [← moved, finishes, places, ← board]
  rfl

/-! ### The end of swimming (R80, R83) -/

theorem swimmingDone_iff {s : State} : swimmingDone s = true ↔
    ∀ l : Lane, s.lanes[l].state = .vacant ∨ s.lanes[l].state = .finished ∨ s.lanes[l].dq = true := by
  have each (r : LaneRecord) : (r.state == .vacant || r.state == .finished || r.dq) = true ↔
      r.state = .vacant ∨ r.state = .finished ∨ r.dq = true := by
    simp [or_assoc]
  unfold swimmingDone
  rw [Vector.all_toList, Vector.all_eq_true]
  simp only [each]
  exact ⟨fun all l => all l l.isLt, fun all i h => all ⟨i, h⟩⟩

theorem heatAnnouncement_of {p t : State} (state : t.heat.state = p.heat.state) (banks : t.banks = p.banks)
    (settings : t.settings = p.settings) (notices : t.orders.notices = p.orders.notices) :
    heatAnnouncement t = heatAnnouncement p := by
  unfold heatAnnouncement heatSent noticeSent boardSent State.activeBank State.notice
  rw [state, banks, settings, notices]

theorem closing_clock {now : Tick} {y e : State} (clock : e.clock = y.clock) (banks : e.banks = y.banks) :
    (closing now e).clock = (closing now y).clock := by
  unfold closing State.head State.activeBank
  simp only [State.setHeat_clock, State.setClock_clock]
  rw [clock, banks]

theorem PlacedAnew.closing {y e t : State} {lane : Lane} {r : LaneRecord} {now : Tick} (h : PlacedAnew y lane r e)
    (k : OnlyAnnounces (closing now e) t) : PlacedAnew y lane r t where
  own := by
    rw [k.lanes]
    exact h.own
  others := by
    rw [k.lanes]
    exact h.others
  placed := by
    rw [k.lanes, k.results]
    exact h.placed
  lamps := by
    unfold LampsFollowPlaces
    rw [k.lanes, k.lamps]
    exact h.lamps
  nodes := k.nodes.trans h.nodes
  filters := k.filters.trans h.filters
  banks := k.banks.trans h.banks
  settings := k.settings.trans h.settings
  loader := k.loader.trans h.loader
  line := k.line.trans h.line
  busy := k.busy.trans h.busy
  orders := k.orders.trans (congrArg (fun o : OrderHandler => { o with notices := t.orders.notices }) h.orders)

/-- The test for the end of swimming behind a placing, if it is made: the heat enters CLOSING, or nothing happens. -/
theorem testEndOfSwimming_placed {y e t : State} {lane : Lane} {r : LaneRecord} {tests : Bool} {ends : Prop}
    (h : PlacedAnew y lane r e) (heat : e.heat = y.heat) (clock : e.clock = y.clock)
    (is : t = if tests = true then testEndOfSwimming e else e)
    (decides : ends ↔ tests = true ∧ y.heat.state = .running
      ∧ ∀ l : Lane, e.lanes[l].state = .vacant ∨ e.lanes[l].state = .finished ∨ e.lanes[l].dq = true) :
    PlacedAnew y lane r t ∧ t.lanes = e.lanes ∧ t.results = e.results
      ∧ (ends → t.heat = { y.heat with state := .closing } ∧ t.clock = (closing y.now y).clock)
      ∧ (¬ ends → t.heat = y.heat ∧ t.clock = y.clock)
      ∧ (e.orders = y.orders → placesTaken e.board.reserved e.board.queue + 2 ≤ 32 → ∃ changed,
        t.board.queue = e.board.queue ++ changed ∧ (ends → changed = heatAnnouncement (closing y.now y))
        ∧ (¬ ends → changed = [])) := by
  by_cases done : ends
  · obtain ⟨made, running, all⟩ := decides.mp done
    have tick : e.now = y.now := congrArg RaceClock.tick clock
    have enters : t = announceHeat (closing y.now e) := by
      rw [is, if_pos made, ← tick, ← enterClosing_eq]
      exact if_pos ⟨by rw [heat]; exact running, swimmingDone_iff.mpr all⟩
    have announces := enters ▸ announceHeat_onlyAnnounces (closing y.now e)
    refine ⟨h.closing announces, announces.lanes, announces.results, fun _ => ⟨?_, ?_⟩, (absurd done ·), fun orders room => ?_⟩
    · exact announces.heat.trans (congrArg (fun x : HeatController => { x with state := .closing }) heat)
    · exact announces.clock.trans (closing_clock clock h.banks)
    · refine ⟨heatAnnouncement (Machine.closing y.now y), ?_, fun _ => rfl, (absurd done ·)⟩
      rw [enters, announceHeat_roomy (s := Machine.closing y.now e) room]
      refine congrArg (e.board.queue ++ ·) ?_
      exact heatAnnouncement_of rfl h.banks h.settings (congrArg OrderHandler.notices orders)
  · have stays : t = e := by
      cases tests with
      | false => exact is
      | true => exact is.trans ((if_pos rfl).trans (if_neg fun both =>
          done (decides.mpr ⟨rfl, by rw [← heat]; exact both.1, swimmingDone_iff.mp both.2⟩)))
    rw [stays]
    exact ⟨h, rfl, rfl, (absurd · done), fun _ => ⟨heat, clock⟩, fun _ _ => ⟨[], (List.append_nil _).symm, (absurd · done), fun _ => rfl⟩⟩

/-! ### MARK (R112) -/

section
variable {body : List Byte} {l : Lane} {s : State} (lane : laneOf (byteAt body 0) = some l)
include lane

theorem orderMark_refused (high : 1 < (byteAt body 1).toNat) : orderMark body s = (s, refuse 2) := by
  unfold orderMark
  rw [lane]
  exact if_pos high

variable (bit : (byteAt body 1).toNat ≤ 1)
include bit

theorem orderMark_busy (early : s.heat.state = .idle ∨ s.heat.state = .armed ∨ s.heat.state = .marks) :
    orderMark body s = (s, plain .busy) := by
  unfold orderMark
  rw [lane]
  exact (if_neg (Nat.not_lt.mpr bit)).trans (if_pos early)

theorem orderMark_open (started : s.heat.state = .running ∨ s.heat.state = .closing ∨ s.heat.state = .closed) :
    orderMark body s = if s.lanes[l].state = .vacant then (s, plain .noData)
      else if s.lanes[l].dq = (byteAt body 1 == 1) then (s, plain .ok)
      else (changeDq l (byteAt body 1 == 1) s, plain .ok) := by
  unfold orderMark
  rw [lane]
  refine (if_neg (Nat.not_lt.mpr bit)).trans (if_neg ?_)
  rintro (state | state | state) <;> rw [state] at started <;> simp at started

end

/-- An owner's order that changes a DQ flag in RUNNING or CLOSING. -/
theorem consoleOrder_owner_marks {now : Tick} {src tag : Byte} {code : OrderCode} {body : List Byte}
    {effect : State → State × Answer} {s : State} {room : List Telegram} {lane : Lane} {dq : Bool}
    {r : LaneRecord} (record : r = { s.lanes[lane] with dq := dq }) (served : ConsoleServed s) (place : PlaceMade s room) (suits : lengthSuits code body.length = true)
    (needs : needsChannel code = true) (state : s.heat.state ≠ .closed)
    (does : effect (roomMade now s room) = (changeDq lane dq (roomMade now s room), plain .ok)) :
    let v := ownerTurn now s
    ∃ t queue, consoleOrder src code tag body effect (advanceTo now s) = t
      ∧ t.board = { v.board with queue := queue ++ [response s src tag code .ok 0 []], reserved := false }
      ∧ PlacedAnew v lane r t ∧ t.results.revision = s.results.revision
      ∧ ∀ ends : Prop, (ends ↔ dq = true ∧ s.heat.state = .running
          ∧ ∀ l : Lane, t.lanes[l].state = .vacant ∨ t.lanes[l].state = .finished ∨ t.lanes[l].dq = true) →
        (ends → t.heat = { s.heat with state := .closing } ∧ t.clock = (closing now v).clock)
        ∧ (¬ ends → t.heat = s.heat ∧ t.clock = v.clock)
        ∧ (PlacesFree 13 s → ∃ changed, queue = s.board.queue ++ (placesMoved s t).map (placeSent t) ++ changed
          ∧ (ends → changed = heatAnnouncement (closing now v)) ∧ (¬ ends → changed = [])) := by
  intro v
  have place' : r.place = (roomMade now s room).lanes[lane].place := by
    rw [record]
    exact (congrArg (fun x : Vector LaneRecord 10 => x[lane].place) (ownerTurn_lanes now s)).symm
  have record' : r = { (roomMade now s room).lanes[lane] with dq := dq } :=
    record.trans (congrArg (fun x : Vector LaneRecord 10 => { x[lane] with dq := dq }) (ownerTurn_lanes now s).symm)
  clear record
  have heatY : (roomMade now s room).heat = s.heat := ownerTurn_heat now s
  have lanesY : (roomMade now s room).lanes = s.lanes := ownerTurn_lanes now s
  have resultsY : (roomMade now s room).results = s.results := ownerTurn_results now s
  have nowY : (roomMade now s room).now = now := ownerTurn_now now s
  obtain ⟨e, isE⟩ : ∃ e, e = placeProvisionally none (setLane lane r (roomMade now s room)) := ⟨_, rfl⟩
  have changes : changeDq lane dq (roomMade now s room) = if dq = true then testEndOfSwimming e else e := by
    unfold changeDq
    rw [heatY, if_neg state, isE, record']
  obtain ⟨placed, heat, clock, revision, telegrams⟩ := placeProvisionally_placed place' isE
  generalize isT : changeDq lane dq (roomMade now s room) = t at does changes
  clear isT isE
  obtain ⟨placedT, lanesT, resultsT, _⟩ := testEndOfSwimming_placed placed heat clock changes Iff.rfl
  have sent := consoleOrder_owner_queue (src := src) (tag := tag) served place suits needs does placedT.line placedT.busy placedT.settings
  refine ⟨_, t.board.queue, sent, rfl, placedT.setBoard rfl rfl, ?_, fun ends decides => ?_⟩
  · exact (congrArg ResultUnit.revision resultsT).trans (revision.trans (congrArg ResultUnit.revision resultsY))
  · have decides' : ends ↔ dq = true ∧ (roomMade now s room).heat.state = .running
        ∧ ∀ l : Lane, e.lanes[l].state = .vacant ∨ e.lanes[l].state = .finished ∨ e.lanes[l].dq = true := by
      rw [heatY, ← lanesT]
      exact decides
    obtain ⟨_, _, _, closes, stays, queue⟩ := testEndOfSwimming_placed placed heat clock changes decides'
    rw [nowY, heatY] at closes
    rw [heatY] at stays
    rw [nowY] at queue
    refine ⟨closes, stays, fun free => ?_⟩
    have same := place.same free
    have free' : s.board.queue.length + 13 ≤ 32 := free.2
    have few : placesTaken true room + 13 ≤ 33 := by
      rw [same]
      simp [placesTaken]
      omega
    obtain ⟨orders, board⟩ := telegrams (by change placesTaken true room + 11 ≤ 32; omega)
    have moved : (placesMoved (roomMade now s room) e).filter (fun o => some o != none) = placesMoved s t := by
      have all : (fun o : Lane => some o != none) = fun _ => true := rfl
      unfold placesMoved
      rw [all, List.filter_eq_self.mpr fun _ _ => rfl, lanesT, resultsT, lanesY]
    have short : (placesMoved s t).length ≤ 10 := by
      refine placesMoved_length ?_
      rw [resultsT]
      exact placed.placed.2.2.1
    rw [moved] at board
    have telegramsT : placeSent e = placeSent t := (placeSent_of lanesT (placedT.settings.trans placed.settings.symm)).symm
    have queueE : e.board.queue = room ++ (placesMoved s t).map (placeSent t) := by
      rw [board, telegramsT, Option.toList_none, List.map_nil]
      exact congrArg (· ++ _) (List.append_nil room)
    obtain ⟨changed, queueT, closed, open'⟩ := queue orders (by
      rw [queueE, board]
      change placesTaken true (room ++ (placesMoved s t).map (placeSent t)) + 2 ≤ 32
      unfold placesTaken at few ⊢
      rw [List.length_append, List.length_map]
      omega)
    refine ⟨changed, ?_, closed, open'⟩
    rw [queueT, queueE, same]
    rfl

theorem changeDq_closed {lane : Lane} {dq : Bool} {r : LaneRecord} {y : State} (closed : y.heat.state = .closed)
    (record : { y.lanes[lane] with dq := dq } = r) : changeDq lane dq y = reviseResults (setLane lane r y) := by
  unfold changeDq
  rw [if_pos closed, record]

/-- Settles O49: MARK answers alone, or changes the DQ flag and the places with it. -/
theorem markChangesDq : Obligations.MarkChangesDq := by
  intro now src tag lane dq s room served place v answer Answered
  have heat (b : BoardTransmitter) : ((ownerTurn now s).setBoard b).heat = s.heat := ownerTurn_heat now s
  have lanes (b : BoardTransmitter) : ((ownerTurn now s).setBoard b).lanes = s.lanes := ownerTurn_lanes now s
  have suits : lengthSuits .mark [lane, dq].length = true := rfl
  have answers {a : Answer} (decided : ∀ b : BoardTransmitter,
      orderMark [lane, dq] ((ownerTurn now s).setBoard b) = ((ownerTurn now s).setBoard b, a)) :
      exec (.mark now src tag [lane, dq]) s =
        .next (answered v room (response s src tag .mark a.status a.reason a.body)) :=
    congrArg Host.Outcome.next (consoleOrder_owner_effect served place suits (by decide) decided
      (ownerTurn_board now s) (congrArg Settings.station (ownerTurn_settings now s)))
  refine ⟨fun above => answers (a := refuse 1) fun b => ?_, fun l is => ?_⟩
  · have none : laneOf (byteAt [lane, dq] 0) = none := laneOf_above above
    unfold orderMark
    rw [none]
  have here : laneOf (byteAt [lane, dq] 0) = some l := (congrArg laneOf is).trans (laneOf_byteOf l)
  refine ⟨fun high => answers (a := refuse 2) fun b => orderMark_refused here high, fun bit early =>
    answers (a := plain .busy) fun b => orderMark_busy here bit (by rw [heat]; exact early), fun bit started => ?_⟩
  have order (b : BoardTransmitter) := orderMark_open (s := (ownerTurn now s).setBoard b) here bit (by rw [heat]; exact started)
  simp only [lanes] at order
  refine ⟨fun vacant => answers (a := plain .noData) fun b => (order b).trans (if_pos vacant), fun swims same =>
    answers (a := plain .ok) fun b => (order b).trans ((if_neg swims).trans (if_pos same)), fun swims differs => ?_⟩
  have does : orderMark [lane, dq] (roomMade now s room) = (changeDq l (dq == 1) (roomMade now s room), plain .ok) :=
    (order _).trans ((if_neg swims).trans (if_neg differs))
  obtain ⟨r, record⟩ : ∃ r : LaneRecord, r = { s.lanes[l] with dq := dq == 1 } := ⟨_, rfl⟩
  have fieldsOf {t : State} (placed : PlacedAnew v l r t) :
      t.lanes[l] = { s.lanes[l] with dq := dq == 1, place := t.lanes[l].place }
        ∧ (∀ other : Lane, other ≠ l → t.lanes[other] = { s.lanes[other] with place := t.lanes[other].place })
        ∧ Placed s.heat.state t.lanes t.results.order := by
    have own := placed.own
    have others := placed.others
    have places := placed.placed
    rw [ownerTurn_lanes] at others
    rw [ownerTurn_heat] at places
    rw [record] at own
    exact ⟨own, others, places⟩
  by_cases state : s.heat.state = .closed
  · have changes : changeDq l (dq == 1) (roomMade now s room) = reviseResults (setLane l r (roomMade now s room)) :=
      changeDq_closed ((congrArg HeatController.state (ownerTurn_heat now s)).trans state)
        ((congrArg (fun x : Vector LaneRecord 10 => { x[l] with dq := dq == 1 }) (ownerTurn_lanes now s)).trans record.symm)
    rw [changes] at does
    obtain ⟨t, queue, sent, board, placed, heatT, clock, revision, telegrams⟩ :=
      consoleOrder_owner_revises (src := src) (tag := tag) served place suits (by decide) does
    obtain ⟨own, others, places⟩ := fieldsOf placed
    refine ⟨t, queue, congrArg Host.Outcome.next sent, board, own, others, places, placed.lamps,
      revision.trans (if_pos state).symm, fun _ free => ?_, ⟨fun ends => ?_, fun _ => ⟨heatT, clock⟩, (absurd state ·)⟩,
      placed.nodes.trans (ownerTurn_nodes now s),
      placed.banks.trans (ownerTurn_banks now s), placed.filters.trans (ownerTurn_filters now s),
      placed.settings.trans (ownerTurn_settings now s), placed.loader.trans (ownerTurn_loader now s), placed.orders⟩
    · have lanesAre : (fun o : Lane => (if l = o then r else s.lanes[o]).state != .vacant) =
          fun o : Lane => s.lanes[o].state != .vacant := by
        funext o
        split
        · next same => rw [record, ← same]
        · rfl
      rw [telegrams free, lanesAre]
    · exact nomatch state.symm.trans ends.1
  · obtain ⟨t, queue, sent, board, placed, revision, course⟩ :=
      consoleOrder_owner_marks (src := src) (tag := tag) record served place suits (by decide) state does
    obtain ⟨own, others, places⟩ := fieldsOf placed
    refine ⟨t, queue, congrArg Host.Outcome.next sent, board, own, others, places, placed.lamps,
      revision.trans (if_neg state).symm, (absurd · state), ?_,
      placed.nodes.trans (ownerTurn_nodes now s),
      placed.banks.trans (ownerTurn_banks now s), placed.filters.trans (ownerTurn_filters now s),
      placed.settings.trans (ownerTurn_settings now s), placed.loader.trans (ownerTurn_loader now s), placed.orders⟩
    intro ends
    obtain ⟨closes, stays, telegrams⟩ := course ends (by
      unfold ends
      rw [beq_iff_eq]
      exact and_left_comm)
    exact ⟨closes, stays, fun _ => telegrams⟩

end Sys2Proof.Machine
end
section
/-! The close of a heat (R69, R85, R109, R119 to R121). -/

namespace Sys2Proof.Machine

/-! ### The close work on the lanes (R119, R120) -/

/-- A lane record after the close work: official time, source and discrepancy. -/
def settledRecord (limit : Nat) (r : LaneRecord) : LaneRecord :=
  if occupied r then
    if isDiscrepant limit r then { chooseOfficial r with discrepant := true } else chooseOfficial r
  else r

/-- The lane raises DISCREPANT at the close. -/
def raisesDiscrepant (limit : Nat) (r : LaneRecord) : Bool := occupied r && isDiscrepant limit r

/-- The state with DISCREPANT raised, if it is. -/
def discrepantRaised (found : Bool) (h : State) : State := if found then raise .discrepant h else h

theorem discrepantRaised_setLanes {h : State} (room : placesTaken h.board.reserved h.board.queue < 32) (found : Bool)
    (lanes : Vector LaneRecord 10) :
    discrepantRaised found (h.setLanes lanes) = (discrepantRaised found h).setLanes lanes := by
  cases found with
  | false => rfl
  | true =>
    unfold discrepantRaised
    rw [if_pos rfl, if_pos rfl, raise_free room, raise_free (s := h.setLanes lanes) room]
    rfl

theorem discrepantRaised_again (found : Bool) (h : State) :
    raise .discrepant (discrepantRaised found h) = discrepantRaised true h := by
  cases found with
  | false => rfl
  | true =>
    have set : ((discrepantRaised true h).notice .discrepant).status = true := raise_sets .discrepant h
    exact raise_set set

theorem discrepantRaised_head (found : Bool) (h : State) : (discrepantRaised found h).head = h.head := by
  cases found with
  | false => rfl
  | true => exact congrArg (fun b : BankStore => State.head (h.setBanks b)) (raise_onlyAnnounces .discrepant h).banks

theorem setLane_same (lane : Lane) (s : State) : setLane lane s.lanes[lane] s = s := by
  unfold setLane
  exact congrArg s.setLanes (Vector.set_getElem_self _)

theorem settleLane_eq (s : State) (lane : Lane) : settleLane s lane =
    discrepantRaised (raisesDiscrepant (msToMicros s.head.discrepancy) s.lanes[lane])
      (setLane lane (settledRecord (msToMicros s.head.discrepancy) s.lanes[lane]) s) := by
  unfold settleLane discrepantRaised raisesDiscrepant settledRecord
  dsimp only
  cases swims : occupied s.lanes[lane] with
  | false =>
    rw [if_neg Bool.false_ne_true, Bool.false_and, if_neg Bool.false_ne_true, if_neg Bool.false_ne_true, setLane_same]
  | true => cases isDiscrepant (msToMicros s.head.discrepancy) s.lanes[lane] <;> rfl

/-- The close work on some lanes, from a state in which DISCREPANT has been raised or not. -/
theorem foldl_settleLane {h : State} (room : placesTaken h.board.reserved h.board.queue < 32) :
    ∀ (lanes : List Lane) (before : Bool) (records : Vector LaneRecord 10), lanes.Nodup →
    let limit := msToMicros h.head.discrepancy
    ∃ settled : Vector LaneRecord 10, lanes.foldl settleLane ((discrepantRaised before h).setLanes records) =
        (discrepantRaised (before || lanes.any fun o => raisesDiscrepant limit records[o]) h).setLanes settled
      ∧ ∀ o : Lane, settled[o] = if o ∈ lanes then settledRecord limit records[o] else records[o]
  | [], before, records, _ => ⟨records, by rw [List.any_nil, Bool.or_false]; rfl, fun o => (if_neg List.not_mem_nil).symm⟩
  | lane :: lanes, before, records, once => by
    obtain ⟨away, once⟩ := List.nodup_cons.mp once
    intro limit
    have head : ((discrepantRaised before h).setLanes records).head = h.head := discrepantRaised_head before h
    have first : settleLane ((discrepantRaised before h).setLanes records) lane =
        (discrepantRaised (before || raisesDiscrepant limit records[lane]) h).setLanes
          (records.set lane (settledRecord limit records[lane])) := by
      rw [settleLane_eq, head]
      change discrepantRaised (raisesDiscrepant limit records[lane])
        ((discrepantRaised before h).setLanes (records.set lane (settledRecord limit records[lane]))) = _
      cases raisesDiscrepant limit records[lane] with
      | false => rw [Bool.or_false]; rfl
      | true =>
        rw [← discrepantRaised_setLanes room, Bool.or_true, ← discrepantRaised_setLanes room]
        exact discrepantRaised_again before _
    have other (o : Lane) (mem : o ∈ lanes) :
        (records.set lane (settledRecord limit records[lane]))[o] = records[o] :=
      Vector.getElem_set_ne _ _ fun same => away (Fin.ext same ▸ mem)
    obtain ⟨settled, rest, each⟩ := foldl_settleLane room lanes (before || raisesDiscrepant limit records[lane])
      (records.set lane (settledRecord limit records[lane])) once
    refine ⟨settled, ?_, fun o => ?_⟩
    · rw [List.foldl_cons, first, rest, List.any_cons, Bool.or_assoc]
      have same : (lanes.any fun o => raisesDiscrepant limit (records.set lane (settledRecord limit records[lane]))[o]) =
          lanes.any fun o => raisesDiscrepant limit records[o] := by
        refine Bool.eq_iff_iff.mpr ?_
        rw [List.any_eq_true, List.any_eq_true]
        refine exists_congr fun o => and_congr_right fun mem => ?_
        rw [other o mem]
      exact congrArg (fun b => (discrepantRaised (before || (raisesDiscrepant limit records[lane] || b)) h).setLanes settled) same
    · rw [each]
      by_cases mem : o ∈ lanes
      · rw [if_pos mem, if_pos (List.mem_cons_of_mem _ mem), other o mem]
      · rw [if_neg mem]
        by_cases here : o = lane
        · subst here
          rw [if_pos List.mem_cons_self]
          exact Vector.getElem_set_self _
        · rw [if_neg (by simp [mem, here])]
          exact Vector.getElem_set_ne _ _ fun same => here (Fin.ext same.symm)

theorem noticeSent_length (s : State) (k : NoticeKind) (number : Byte) : (noticeSent s k number).length ≤ 1 := by
  unfold noticeSent
  dsimp only
  split <;> simp

theorem placesTaken_append (reserved : Bool) (queue : List Telegram) {more : List Telegram} {n : Nat} (short : more.length ≤ n) :
    placesTaken reserved (queue ++ more) ≤ placesTaken reserved queue + n := by
  unfold placesTaken
  rw [List.length_append]
  omega

theorem discrepantRaised_free {h : State} (room : placesTaken h.board.reserved h.board.queue < 32) (found : Bool) :
    discrepantRaised found h = (setStatus .discrepant ((h.notice .discrepant).status || found) h).setBoard { h.board with
      queue := h.board.queue ++ if found then noticeSent h .discrepant 5 else [] } := by
  cases found with
  | false =>
    rw [Bool.or_false, setStatus_same, if_neg Bool.false_ne_true, List.append_nil]
    rfl
  | true =>
    rw [Bool.or_true, if_pos rfl]
    exact raise_free room

/-- What the close work leaves of a state whose board queue has room for its telegrams (R119 to R121). -/
theorem closeResults_settled {h e : State} (room : placesTaken h.board.reserved h.board.queue + 11 ≤ 32)
    (is : e = closeResults h) :
    let limit := msToMicros h.head.discrepancy
    let found := allLanes.any fun o => raisesDiscrepant limit h.lanes[o]
    (∀ o : Lane, e.lanes[o] = { settledRecord limit h.lanes[o] with place := e.lanes[o].place })
      ∧ Placed h.heat.state e.lanes e.results.order ∧ e.results.revision = 0 ∧ LampsFollowPlaces e
      ∧ e = (((((setStatus .discrepant ((h.notice .discrepant).status || found) h).setLanes e.lanes).setResults
          e.results).setBoard { h.board with
            queue := h.board.queue ++ (if found then noticeSent h .discrepant 5 else [])
              ++ (allLanes.filter fun o => occupied e.lanes[o]).map (resultSent e) }).setLamps e.lamps).setDeck
          { h.deck with queue := e.deck.queue } := by
  intro limit found
  have one : placesTaken h.board.reserved h.board.queue < 32 := by omega
  obtain ⟨settled, folded, each⟩ := foldl_settleLane one allLanes false h.lanes (List.nodup_finRange 10)
  have all (o : Lane) : settled[o] = settledRecord limit h.lanes[o] := (each o).trans (if_pos (List.mem_finRange o))
  have start : (discrepantRaised false h).setLanes h.lanes = h := rfl
  rw [start, Bool.false_or, discrepantRaised_free one] at folded
  obtain ⟨k, isK⟩ : ∃ k, k = allLanes.foldl settleLane h := ⟨_, rfl⟩
  obtain ⟨p, isP⟩ : ∃ p, p = (runPlacing k).setResults { (runPlacing k).results with revision := 0 } := ⟨_, rfl⟩
  have e' : e = handOffLamps (offerResults p) := by
    rw [is, isP, isK]
    rfl
  rw [← isK] at folded
  have followed : FollowedUp p e := e' ▸ .handOffLamps (offerResults_onlyAnnounces p)
  have placed : Placed h.heat.state p.lanes p.results.order := by
    have is := (placingRule k).1
    rw [isP]
    rwa [folded] at is ⊢
  have record (o : Lane) : p.lanes[o] = { settledRecord limit h.lanes[o] with place := p.lanes[o].place } := by
    have is : p.lanes[o] = _ := (congrArg (fun x : State => x.lanes[o]) isP).trans (runPlacing_lane k o)
    rw [is, ← all o]
    rw [folded]
    rfl
  have boardP : p.board = { h.board with
      queue := h.board.queue ++ if found then noticeSent h .discrepant 5 else [] } := by
    rw [isP, folded]
    rfl
  have framed : p = (((setStatus .discrepant ((h.notice .discrepant).status || found) h).setLanes p.lanes).setResults
      p.results).setBoard p.board := by
    rw [isP, folded]
    rfl
  have revision : p.results.revision = 0 := by
    rw [isP]
    rfl
  clear isP folded isK is
  have roomP : placesTaken p.board.reserved p.board.queue + 10 ≤ 32 := by
    have short : (if found then noticeSent h .discrepant 5 else []).length ≤ 1 := by
      cases found with
      | false => exact Nat.zero_le 1
      | true => exact noticeSent_length h .discrepant 5
    have taken : placesTaken p.board.reserved p.board.queue ≤ placesTaken h.board.reserved h.board.queue + 1 := by
      rw [boardP]
      exact placesTaken_append h.board.reserved h.board.queue short
    omega
  have frame := (handOffLamps_handed (offerResults p)).frame
  rw [← e', offerResults_free roomP, funext (resultTelegram_eq p)] at frame
  have lamps : e.lamps = { h.lamps with records := e.lamps.records } :=
    (congrArg State.lamps frame).trans (by rw [framed]; rfl)
  have lanesE := followed.lanes
  have resultsE := followed.results
  refine ⟨fun o => ?_, ?_, (congrArg ResultUnit.revision resultsE).trans revision, followed.lamps, ?_⟩
  · rw [lanesE]
    exact record o
  · rw [lanesE, resultsE]
    exact placed
  · rw [lanesE, resultsE, resultSent_of lanesE resultsE followed.settings, lamps]
    generalize e.lamps.records = records at frame
    generalize e.deck.queue = queue at frame
    refine frame.trans ?_
    rw [framed.trans (congrArg (State.setBoard _) boardP)]
    rfl

/-! ### Entry into CLOSED (R69, R85, R109) -/

theorem setStatus_notice (k j : NoticeKind) (b : Bool) (s : State) : (setStatus k b s).notice j =
    if (noticeIndex k).val = (noticeIndex j).val then { s.notice k with status := b } else s.notice j := by
  simp only [setStatus, State.notice, modifyAt, State.setOrders_orders, Fin.getElem_fin, Vector.getElem_set]

theorem closeRecord_eq (r : LaneRecord) : closeRecord r = if r.state = .vacant ∨ r.state = .finished then r
    else { r with
      state := .noTime, awaitingRelease := none, pendingRelease := none
      exchanges := r.exchanges ++ (r.awaitingRelease.toList.map fun w => ⟨w.number, none, .notJudged⟩) } := by
  unfold closeRecord
  cases r.awaitingRelease <;> simp

theorem closeRecord_occupied (r : LaneRecord) : occupied (closeRecord r) = occupied r := by
  rw [closeRecord_eq]
  split
  · rfl
  · next other =>
    have swims : r.state ≠ .vacant := fun vacant => other (.inl vacant)
    exact (bne_iff_ne.mpr swims).symm

theorem closeRecord_discrepant (limit : Nat) (r : LaneRecord) : isDiscrepant limit (closeRecord r) = isDiscrepant limit r := by
  rw [closeRecord_eq]
  split <;> rfl

theorem startResultHold_eq (s : State) : startResultHold s = s.setClock { s.clock with
    resultHold := if s.banks.pendingSwap then some (freshTimer s.now (1000000 * s.head.resultHold))
      else s.clock.resultHold } := by
  unfold startResultHold
  rw [startTimer_now]
  split <;> rfl

/-- The state that enters CLOSED, before HEAT is announced. -/
def closedOf (u : State) : State :=
  unboosted (((u.setClock { u.clock with buttonWindow := none, clockStep := none }).setHeat
    { u.heat with state := .closed }).setLanes (mapAll u.lanes closeRecord))

theorem enterClosed_eq (u : State) : enterClosed (u.setClock { u.clock with buttonWindow := none }) =
    startResultHold (closeResults (announceHeat (closedOf u))) := by
  unfold enterClosed closedOf
  rw [← clearBoosts_eq]
  rfl

/-- The announcement of CLOSED, on a board queue with room for it. -/
def closedAnnounced (u : State) : State := changedWith (closedOf u) (heatAnnouncement (closedOf u))

theorem closedAnnounced_lane (u : State) (lane : Lane) : (closedAnnounced u).lanes[lane] = closeRecord u.lanes[lane] :=
  mapAll_entry u.lanes closeRecord lane

theorem closedAnnounced_discrepant (u : State) : (closedAnnounced u).notice .discrepant = u.notice .discrepant :=
  (setStatus_notice .heatChange .discrepant true (closedOf u)).trans (if_neg (by decide))

theorem closedAnnounced_announced (u : State) : ((closedAnnounced u).notice .heatChange).status = true :=
  congrArg Notice.status ((setStatus_notice .heatChange .heatChange true (closedOf u)).trans (if_pos rfl))

/-- The fields of a state that enters CLOSED which the announcement leaves. -/
theorem closedAnnounced_fields (u : State) : (closedAnnounced u).head = u.head
    ∧ (closedAnnounced u).heat = { u.heat with state := .closed }
    ∧ (closedAnnounced u).clock = { u.clock with buttonWindow := none, clockStep := none }
    ∧ (closedAnnounced u).nodes = (unboosted u).nodes ∧ (closedAnnounced u).banks = u.banks
    ∧ (closedAnnounced u).filters = u.filters ∧ (closedAnnounced u).settings = u.settings
    ∧ (closedAnnounced u).loader = u.loader ∧ (closedAnnounced u).tally = u.tally ∧ (closedAnnounced u).deck = u.deck
    ∧ (closedAnnounced u).orders = { u.orders with notices := (closedAnnounced u).orders.notices }
    ∧ (closedAnnounced u).board.queue = u.board.queue ++ heatAnnouncement (u.setHeat { u.heat with state := .closed })
    ∧ (closedAnnounced u).board.reserved = false :=
  ⟨rfl, rfl, rfl, rfl, rfl, rfl, rfl, rfl, rfl, rfl, rfl, rfl, rfl⟩

theorem closedAnnounced_room {u : State} (free : PlacesFree 13 u) :
    placesTaken (closedAnnounced u).board.reserved (closedAnnounced u).board.queue + 11 ≤ 32 := by
  have short : (heatAnnouncement (u.setHeat { u.heat with state := .closed })).length ≤ 2 := by
    have notice := noticeSent_length (u.setHeat { u.heat with state := .closed }) .heatChange 6
    unfold heatAnnouncement
    rw [List.length_cons]
    omega
  obtain ⟨_, _, _, _, _, _, _, _, _, _, _, queue, reserved⟩ := closedAnnounced_fields u
  have room : u.board.queue.length + 13 ≤ 32 := free.2
  have more := placesTaken_append false u.board.queue short
  rw [queue, reserved]
  unfold placesTaken at more ⊢
  simp only [Bool.false_eq_true, if_false] at more ⊢
  omega

/-- The expiry of the button window in CLOSING, with room for its telegrams. -/
theorem buttonWindow_closes {now : Tick} {s : State} {window : Timer} (state : s.heat.state = .closing)
    (free : PlacesFree 13 s) (runs : (advanceTo now s).clock.buttonWindow = some window)
    (ends : window.span ≤ window.elapsed) :
    exec (.buttonWindowExpiry now) s = .next (startResultHold (closeResults (closedAnnounced (advanceTo now s)))) := by
  obtain ⟨unreserved, room⟩ := free
  refine congrArg Host.Outcome.next ((if_pos (runs ▸ expired_some ends)).trans ((if_pos state).trans ?_))
  refine (enterClosed_eq (advanceTo now s)).trans (congrArg (fun x => startResultHold (closeResults x)) ?_)
  exact announceHeat_free (s := closedOf (advanceTo now s)) ⟨unreserved, Nat.le_trans (Nat.add_le_add_left (by decide) _) room⟩

theorem settledRecord_occupied (limit : Nat) (r : LaneRecord) : occupied (settledRecord limit r) = occupied r := by
  have chosen : (chooseOfficial r).state = r.state := by
    unfold chooseOfficial
    split <;> rfl
  unfold settledRecord
  split
  · split <;> exact congrArg (· != LaneState.vacant) chosen
  · rfl

/-- A heat that has entered CLOSED, lane by lane and field by field. -/
theorem closed_settled {u t : State} (free : PlacesFree 13 u) (is : t = startResultHold (closeResults (closedAnnounced u))) :
    let limit := 1000 * u.head.discrepancy
    let found := allLanes.any fun o => raisesDiscrepant limit (closeRecord u.lanes[o])
    (∀ lane : Lane, t.lanes[lane] =
        { settledRecord limit (closeRecord u.lanes[lane]) with place := t.lanes[lane].place })
      ∧ Placed .closed t.lanes t.results.order ∧ t.results.revision = 0 ∧ LampsFollowPlaces t
      ∧ t = ((((((setStatus .discrepant ((u.notice .discrepant).status || found) (closedAnnounced u)).setLanes
          t.lanes).setResults t.results).setBoard { (closedAnnounced u).board with
            queue := (closedAnnounced u).board.queue ++ (if found then noticeSent u .discrepant 5 else [])
              ++ (allLanes.filter fun o => u.lanes[o].state != .vacant).map (resultSent t) }).setLamps t.lamps).setDeck
          { u.deck with queue := t.deck.queue }).setClock { u.clock with
            buttonWindow := none, clockStep := none
            resultHold := if u.banks.pendingSwap then some (freshTimer u.now (1000000 * u.head.resultHold))
              else u.clock.resultHold } := by
  intro limit found
  obtain ⟨e, isE⟩ : ∃ e, e = closeResults (closedAnnounced u) := ⟨_, rfl⟩
  obtain ⟨lanes, placed, revision, lamps, frame⟩ := closeResults_settled (closedAnnounced_room free) isE
  have sent : noticeSent (closedAnnounced u) .discrepant 5 = noticeSent u .discrepant 5 := by
    unfold noticeSent
    rw [closedAnnounced_discrepant]
    rfl
  rw [startResultHold_eq, ← isE] at is
  clear isE
  simp only [closedAnnounced_lane, closedAnnounced_discrepant, sent] at lanes frame
  have places : (fun o : Lane => occupied e.lanes[o]) = fun o : Lane => u.lanes[o].state != .vacant := by
    funext o
    rw [lanes o]
    exact (settledRecord_occupied _ _).trans (closeRecord_occupied _)
  rw [places] at frame
  have clock : e.clock = { u.clock with buttonWindow := none, clockStep := none } := (congrArg State.clock frame :)
  have banks : e.banks = u.banks := (congrArg State.banks frame :)
  have head : e.head = u.head := (congrArg State.head frame :)
  have tick : e.now = u.now := by
    rw [State.now, clock]
    rfl
  rw [clock, banks, head, tick] at is
  subst is
  exact ⟨lanes, placed, revision, lamps, congrArg (fun x => State.setClock x { u.clock with
    buttonWindow := none, clockStep := none
    resultHold := if u.banks.pendingSwap then some (freshTimer u.now (1000000 * u.head.resultHold))
      else u.clock.resultHold }) frame⟩

/-- The work of the close on a lane record, as the statement O24 spells it. -/
theorem settledRecord_vacant {limit : Nat} {r : LaneRecord} (vacant : r.state = .vacant) : settledRecord limit r = r :=
  if_neg (by simp [occupied, vacant])

theorem settledRecord_swum {limit : Nat} {r : LaneRecord} (swims : r.state ≠ .vacant) : settledRecord limit r =
    chooseOfficial { r with discrepant := r.discrepant || isDiscrepant limit r } := by
  unfold settledRecord chooseOfficial
  rw [if_pos (by simp [occupied, swims])]
  cases isDiscrepant limit r <;> cases r.padFinish <;> cases backupTime r.samples <;> simp

/-- Settles O24: the entry into CLOSED settles each lane, places them all and offers the RESULTs. -/
theorem buttonWindowClosesHeat : Obligations.ButtonWindowClosesHeat := by
  intro now s window state free runs ends u closed found chosen someFound
  obtain ⟨t, isT⟩ : ∃ t, t = startResultHold (closeResults (closedAnnounced u)) := ⟨_, rfl⟩
  have taken := buttonWindow_closes state free runs ends
  rw [← isT] at taken
  obtain ⟨lanes, placed, revision, lamps, frame⟩ := closed_settled (u := u) free isT
  clear isT
  have foundIs (r : LaneRecord) : isDiscrepant (1000 * s.head.discrepancy) r = found r := by
    change isDiscrepant (1000 * s.head.discrepancy) r = match r.padFinish, backupTime r.samples with
      | some pad, some backup => decide (1000 * s.head.discrepancy < (pad - backup).natAbs)
      | _, _ => false
    unfold isDiscrepant
    cases r.padFinish <;> cases backupTime r.samples <;> rfl
  have someIs : (allLanes.any fun o => raisesDiscrepant (1000 * s.head.discrepancy) (closeRecord s.lanes[o])) = someFound := by
    refine congrArg allLanes.any (funext fun o => ?_)
    unfold raisesDiscrepant
    rw [closeRecord_occupied, closeRecord_discrepant, foundIs]
    exact Eq.refl (s.lanes[o].state != .vacant && found s.lanes[o])
  have chosenIs (r : LaneRecord) : settledRecord (1000 * s.head.discrepancy) (closeRecord r) = chosen (closed r) := by
    have same : closed r = closeRecord r := (closeRecord_eq r).symm
    rw [same]
    generalize closeRecord r = q
    by_cases vacant : q.state = .vacant
    · rw [settledRecord_vacant vacant]
      exact (if_pos vacant).symm
    · rw [settledRecord_swum vacant, foundIs]
      exact Eq.trans rfl (if_neg vacant).symm
  have head : u.head = s.head := rfl
  have lanesU : u.lanes = s.lanes := rfl
  rw [head, lanesU, someIs] at frame
  have queueT : t.board.queue = s.board.queue ++ heatAnnouncement (u.setHeat { s.heat with state := .closed })
      ++ (if someFound then noticeSent u .discrepant 5 else [])
      ++ (allLanes.filter fun lane => s.lanes[lane].state != .vacant).map (resultSent t) :=
    (congrArg (fun x : State => x.board.queue) frame :)
  have notices : ∀ k, t.notice k = (setStatus .discrepant ((u.notice .discrepant).status || someFound) (closedAnnounced u)).notice k :=
    fun k => (congrArg (fun x : State => x.notice k) frame :)
  refine ⟨t, taken, fun lane => ?lanes, placed, revision, lamps, (congrArg State.heat frame :), (congrArg State.nodes frame :),
    (congrArg State.clock frame :), ?queue, ?announced, ?discrepant, (congrArg State.banks frame :),
    (congrArg State.filters frame :), (congrArg State.settings frame :), (congrArg State.loader frame :),
    (congrArg State.tally frame :), (congrArg State.deck frame :), ?orders⟩
  case lanes =>
    have is := lanes lane
    rw [← chosenIs]
    exact is
  case queue =>
    rw [queueT]
    refine congrArg (fun q => s.board.queue ++ heatAnnouncement (u.setHeat { s.heat with state := .closed }) ++ q ++ _) ?_
    cases someFound with
    | false => rfl
    | true =>
      rw [if_pos rfl]
      refine ite_congr (propext ?_) (fun _ => rfl) fun _ => rfl
      exact ⟨fun loud => ⟨rfl, loud⟩, fun both => both.2⟩
  case announced =>
    rw [notices, setStatus_notice, if_neg (by decide)]
    exact closedAnnounced_announced u
  case discrepant =>
    rw [notices, setStatus_notice, if_pos rfl]
    rfl
  case orders =>
    obtain ⟨kept, is⟩ : ∃ kept, t.orders = { u.orders with notices := kept } := ⟨_, (congrArg State.orders frame :)⟩
    rw [is]

end Sys2Proof.Machine
end
section
/-! Misses and good answers of the station polled (R7 to R11), and the course of the node query (R162, R163). -/

namespace Sys2Proof.Machine

/-! ### Counting where a place is free (R169, R170) -/

/-- A place of the board queue is free, also behind a NOTICE of TALLY_OVERFLOW still to come. -/
def NoticeFree (s : State) : Prop :=
  s.board.reserved = false ∧ s.board.queue.length + (if (s.notice .tallyOverflow).status = true then 0 else 1) ≤ 31

theorem PlacesFree.noticeFree {s : State} (free : PlacesFree 2 s) : NoticeFree s := by
  obtain ⟨unreserved, room⟩ := free
  have room' : s.board.queue.length + 2 ≤ 32 := room
  refine ⟨unreserved, ?_⟩
  split <;> omega

theorem NoticeFree.place {s : State} (free : NoticeFree s) : placesTaken s.board.reserved s.board.queue < 32 := by
  obtain ⟨unreserved, room⟩ := free
  unfold placesTaken
  rw [unreserved, if_neg Bool.false_ne_true]
  omega

theorem NoticeFree.raise_tally {s : State} (free : NoticeFree s) (k : NoticeKind) : (raise k s).tally = s.tally := by
  rw [raise_free free.place]
  rfl

theorem NoticeFree.raise {s : State} (free : NoticeFree s) : NoticeFree (raise .tallyOverflow s) := by
  by_cases set : (s.notice .tallyOverflow).status = true
  · rwa [raise_set set]
  · have status := raise_sets .tallyOverflow s
    have board : (Machine.raise .tallyOverflow s).board =
        { s.board with queue := s.board.queue ++ noticeSent s .tallyOverflow (byteOf ((noticeIndex .tallyOverflow).val + 1)) } :=
      congrArg State.board (raise_free free.place)
    have short := noticeSent_length s .tallyOverflow (byteOf ((noticeIndex .tallyOverflow).val + 1))
    obtain ⟨unreserved, room⟩ := free
    rw [if_neg set] at room
    unfold NoticeFree
    rw [board, if_pos status]
    exact ⟨unreserved, by rw [List.length_append]; omega⟩

/-- A tally event is counted, and a place of the board queue is still free. -/
theorem NoticeFree.count {s : State} (free : NoticeFree s) (e : TallyEvent) (lane : Option Lane) (station : Option Byte) :
    (count e lane station s).tally = tallyAfter s.tally e lane station ∧ NoticeFree (count e lane station s) := by
  have counted : NoticeFree (s.setTally (tallyAfter s.tally e lane station)) := free
  unfold Machine.count countWith
  dsimp only
  split
  · exact ⟨counted.raise_tally .tallyOverflow, counted.raise⟩
  · exact ⟨rfl, counted⟩

/-! ### A miss (R10, R11) -/

theorem OnlyAnnounces.setNodes {s t : State} (h : OnlyAnnounces s t) (nodes : NodeTable) :
    OnlyAnnounces (s.setNodes nodes) (t.setNodes nodes) :=
  ⟨h.clock, rfl, h.filters, h.deck, h.banks, h.heat, h.lanes, h.results, h.lamps, h.settings, h.loader, h.pending, h.line,
    h.busy, h.orders, h.notices, h.counters, h.mode⟩

theorem setNodesReporting_onlyAnnounces (nodes : NodeTable) (s : State) :
    OnlyAnnounces (s.setNodes nodes) (setNodesReporting nodes s) := by
  unfold setNodesReporting
  dsimp only
  split
  · exact .refl _
  · split
    · exact raise_onlyAnnounces _ _
    · exact onlyAnnounces_setStatus _ _ _

theorem setNodesReporting_lost {nodes : NodeTable} {s : State} (before : nodeLost s.nodes = false)
    (after : nodeLost nodes = true) : ((setNodesReporting nodes s).notice .nodeLost).status = true := by
  unfold setNodesReporting
  rw [before, after, if_neg (by decide), if_pos rfl]
  exact raise_sets .nodeLost _

theorem setNodesReporting_tally {s : State} (free : NoticeFree s) (nodes : NodeTable) :
    (setNodesReporting nodes s).tally = s.tally := by
  unfold setNodesReporting
  dsimp only
  split
  · rfl
  · split
    · exact NoticeFree.raise_tally (s := s.setNodes nodes) free .nodeLost
    · rfl

theorem runtimeAfterMiss_eq (r : NodeRuntime) : runtimeAfterMiss r = { r with
    missCount := min 255 (r.missCount + 1)
    presence := if min 255 (r.missCount + 1) = 8 then .absent else r.presence
    restCount := if r.presence = .absent ∨ min 255 (r.missCount + 1) = 8 then 0 else r.restCount } := by
  have limit : Config.missLimit = 8 := rfl
  unfold runtimeAfterMiss
  dsimp only
  rw [limit]
  by_cases absent : r.presence = .absent <;> by_cases eighth : min 255 (r.missCount + 1) = 8 <;> simp [absent, eighth]

/-- The runtime fields that a miss leaves. -/
def missedRun (r : NodeRuntime) : NodeRuntime :=
  { r with
    missCount := min 255 (r.missCount + 1)
    presence := if min 255 (r.missCount + 1) = 8 then .absent else r.presence
    restCount := if r.presence = .absent ∨ min 255 (r.missCount + 1) = 8 then 0 else r.restCount }

/-- The tally events of a miss: POLL_MISS, and BAD_CHECK behind it when a complete telegram failed its check. -/
theorem missCounted {s : State} (free : NoticeFree s) (failed : Bool) (lane : Option Lane) (station : Option Byte) :
    let missed := count .pollMiss lane station s
    let checked := if failed then count .badCheck lane station missed else missed
    OnlyAnnounces s checked ∧ NoticeFree checked ∧ checked.tally = if failed = true then
      tallyAfter (tallyAfter s.tally .pollMiss lane station) .badCheck lane station
      else tallyAfter s.tally .pollMiss lane station := by
  intro missed checked
  have first := count_onlyAnnounces .pollMiss lane station s
  obtain ⟨tally, free'⟩ := free.count .pollMiss lane station
  cases failed with
  | false => exact ⟨first, free', tally⟩
  | true =>
    obtain ⟨tally', free''⟩ := free'.count .badCheck lane station
    exact ⟨first.trans (count_onlyAnnounces .badCheck lane station _), free'', by rw [tally] at tally'; exact tally'⟩

/-- A miss of the station at an index, its exchange ended. -/
theorem takeMiss_here {now : Tick} {s : State} {i : Fin 64} {n : Node} (law : NodeLaw s) (free : PlacesFree 2 s)
    (here : s.nodes[i] = some n) (failed : Bool) :
    let u := advanceTo now s
    let t := endExchange (takeMiss n.entry.station failed u)
    OnlyAnnounces ((u.setNodes (s.nodes.set i (some { n with run := missedRun n.run }))).setDeck
        { u.deck with phase := .gap }) t
      ∧ (min 255 (n.run.missCount + 1) = 8 → (∀ (j : Fin 64) (m : Node), s.nodes[j] = some m → m.run.presence ≠ .absent) →
          (t.notice .nodeLost).status = true)
      ∧ t.tally = if failed = true then
          tallyAfter (tallyAfter s.tally .pollMiss n.entry.lane (some n.entry.station)) .badCheck n.entry.lane
            (some n.entry.station)
        else tallyAfter s.tally .pollMiss n.entry.lane (some n.entry.station) := by
  intro u t
  have lane : stationLane u.nodes n.entry.station = n.entry.lane := stationLane_here law here
  have freeU : NoticeFree u := free.noticeFree
  obtain ⟨announces, free', tally⟩ := missCounted freeU failed n.entry.lane (some n.entry.station)
  obtain ⟨checked, isC⟩ : ∃ checked, checked = if failed = true then
      count .badCheck n.entry.lane (some n.entry.station) (count .pollMiss n.entry.lane (some n.entry.station) u)
    else count .pollMiss n.entry.lane (some n.entry.station) u := ⟨_, rfl⟩
  rw [← isC] at announces free' tally
  have nodes : checked.nodes = s.nodes := announces.nodes
  have changed : changeRuntime s.nodes n.entry.station runtimeAfterMiss =
      s.nodes.set i (some { n with run := missedRun n.run }) := by
    rw [changeRuntime_here law here, runtimeAfterMiss_eq]
    rfl
  have miss : takeMiss n.entry.station failed u = setNodesReporting (s.nodes.set i (some { n with run := missedRun n.run })) checked := by
    unfold takeMiss
    dsimp only
    rw [lane, ← isC, nodes, changed]
  have ended : t = endExchange (setNodesReporting (s.nodes.set i (some { n with run := missedRun n.run })) checked) :=
    congrArg endExchange miss
  rw [ended]
  refine ⟨((announces.setNodes _).trans (setNodesReporting_onlyAnnounces _ checked)).endExchange, fun eighth others => ?_, ?_⟩
  · refine setNodesReporting_lost ?_ ?_
    · rw [nodes]
      refine Bool.eq_false_iff.mpr fun lost => ?_
      obtain ⟨j, m, there, absent⟩ := nodeLost_iff.mp lost
      exact others j m there absent
    · refine nodeLost_iff.mpr ⟨i, { n with run := missedRun n.run }, ?_, if_pos eighth⟩
      rw [set_entry, if_pos rfl]
  · exact (setNodesReporting_tally free' _).trans tally

theorem answerContent_bad {own station : Byte} {panel : Bool} {a : Telegram}
    (bad : a.dest ≠ own ∨ a.src ≠ station ∨ (a.kind ≠ kindReport ∧ a.kind ≠ kindAnswer
        ∧ ¬ (a.kind = kindOrder ∧ panel = true ∧ 4 ≤ a.payload.length))
      ∨ (a.kind = kindReport ∧ a.payload.length ≠ 0 ∧ a.payload.length ≠ 4 ∧ a.payload.length ≠ 8)) :
    answerContent own station panel a = .notGood := by
  unfold answerContent
  by_cases other : a.dest ≠ own ∨ a.src ≠ station
  · exact if_pos other
  · rw [if_neg other]
    rcases bad with dest | src | ⟨notReport, notAnswer, notOrder⟩ | ⟨report, none, one, two⟩
    · exact absurd (.inl dest) other
    · exact absurd (.inr src) other
    · rw [if_neg notReport, if_neg notAnswer]
      split
      · next order =>
        split
        · next shape => exact absurd ⟨order.1, order.2, by rw [shape]; simp⟩ notOrder
        · rfl
      · rfl
    · rw [if_pos report, if_neg (by simp [none, one, two])]

/-- Settles O11: every way to a miss is `takeMiss` of the station polled, its exchange ended. -/
theorem missesCountTowardAbsent : Obligations.MissesCountTowardAbsent := by
  intro now s i n window law free here awaited u misses run tally Missed
  have taken (failed : Bool) := takeMiss_here (now := now) law free here failed
  have answered (bytes : List Byte) : exec (.deckAnswer now bytes) s =
      .next (endExchange (takeAnswer n.entry.station bytes u)) := by
    change Host.Outcome.next _ = _
    rw [awaited]
  refine ⟨⟨_, ?bad, ⟨(taken false).1, (taken false).2.1⟩, (taken false).2.2⟩,
    fun ends => ⟨_, ?window, ⟨(taken false).1, (taken false).2.1⟩, (taken false).2.2⟩,
    fun bytes fails => ⟨_, ?fails, ⟨(taken true).1, (taken true).2.1⟩, (taken true).2.2⟩,
    fun bytes a good wrong => ⟨_, ?wrong, ⟨(taken false).1, (taken false).2.1⟩, (taken false).2.2⟩⟩
  case bad =>
    change Host.Outcome.next _ = _
    rw [awaited]
  case window =>
    have due : timerDue window = true := decide_eq_true ends
    change Host.Outcome.next _ = _
    rw [awaited]
    exact congrArg Host.Outcome.next (if_pos due)
  case fails => rw [answered, takeAnswer, fails]
  case wrong =>
    have content : answerContent u.settings.station n.entry.station (isPanel u.nodes n.entry.station) a = .notGood := by
      refine answerContent_bad (wrong.imp_right (Or.imp_right (Or.imp_left ?_)))
      rintro ⟨notReport, notAnswer, notOrder⟩
      exact ⟨notReport, notAnswer, fun order => notOrder ⟨order.1, (isPanel_iff law here).mp order.2.1, order.2.2⟩⟩
    rw [answered, takeAnswer, good]
    dsimp only
    rw [content]
    rfl

/-! ### The node query (R162, R163) -/

theorem holdResult_held (q : Query) (result : QueryResult) (s : State) :
    OnlyAnnounces (s.setOrders { s.orders with slot := .held q result (freshTimer s.now 5000000) }) (holdResult q result s)
      ∧ ((holdResult q result s).notice .queryDone).status = true := by
  unfold holdResult
  rw [startTimer_now]
  exact ⟨raise_onlyAnnounces _ _, raise_sets _ _⟩

theorem runtimeAfterAnswer_present {r : NodeRuntime} (present : r.presence = .present) :
    runtimeAfterAnswer r = { r with missCount := 0, restCount := 0 } := by
  unfold runtimeAfterAnswer
  rw [← present]

/-- Settles O13: each command of the query's course finds the slot in its state and moves it on. -/
theorem nodeQueryRunsItsCourse : Obligations.NodeQueryRunsItsCourse := by
  intro now s q u
  refine ⟨fun slot line => ?_, fun timer slot ends => ?_, fun timer payload bytes i n window slot law here station isPresent
    awaited received => ?_, fun result timer slot ends => ?_⟩
  · have slotU : u.orders.slot = .waiting q none := by
      change runSlot _ s.orders.slot = _
      rw [slot]
      rfl
    have taken : exec (.querySent now) s = .next (startAnswerTimer (u.setDeck { u.deck with queryOnLine := false })) :=
      congrArg Host.Outcome.next (if_pos line)
    rw [taken, startAnswerTimer]
    have slotV : (u.setDeck { u.deck with queryOnLine := false }).orders.slot = .waiting q none := slotU
    rw [slotV]
    dsimp only
    rw [startTimer_now]
    rfl
  · obtain ⟨held, done⟩ := holdResult_held q .noResponse u
    refine ⟨holdResult q .noResponse u, ?_, done, held⟩
    change Host.Outcome.next _ = _
    rw [slot]
    exact congrArg Host.Outcome.next (if_pos (expired_some ends))
  · have awaited' : s.deck.phase = .awaiting n.entry.station window := by rw [station]; exact awaited
    have received' : receive bytes = .good ⟨s.settings.station, n.entry.station, kindAnswer, payload⟩ := by
      rw [station]
      exact received
    have content : answerContent s.settings.station n.entry.station (isPanel s.nodes n.entry.station)
        ⟨s.settings.station, n.entry.station, kindAnswer, payload⟩ = .answer payload := by
      simp [answerContent, kindAnswer, kindReport]
    have noted := notePresent_here (now := now) law here (by rw [isPresent]; exact nofun)
    have slotP : (present now s i n).orders.slot = .waiting q (some timer) := slot
    have takes : takeQueryAnswer n.entry.station payload (present now s i n) = holdResult q (.answer payload) (present now s i n) := by
      unfold takeQueryAnswer
      rw [slotP]
      exact if_pos station.symm
    obtain ⟨held, done⟩ := holdResult_held q (.answer payload) (present now s i n)
    refine ⟨endExchange (holdResult q (.answer payload) (present now s i n)), ?_, done, ?_⟩
    · rw [exec_deckAnswer_good awaited' received', content, takeContent, noted, takes]
    · have ended := held.endExchange
      have state : endExchange ((present now s i n).setOrders { (present now s i n).orders with
          slot := .held q (.answer payload) (freshTimer (present now s i n).now 5000000) }) =
          ((u.setNodes (s.nodes.set i (some { n with run := { n.run with missCount := 0, restCount := 0 } }))).setDeck
            { u.deck with phase := .gap }).setOrders
            { u.orders with slot := .held q (.answer payload) (freshTimer now 5000000) } := by
        unfold present
        rw [runtimeAfterAnswer_present isPresent]
        rfl
      rwa [state] at ended
  · change Host.Outcome.next _ = _
    rw [slot]
    exact congrArg Host.Outcome.next (if_pos (decide_eq_true ends))

end Sys2Proof.Machine
end
section
/-! The items of a REPORT: the kind check, the contact step and the filter step (R4, R29 to R39). -/

namespace Sys2Proof.Machine

/-! ### A table with other runtime fields at one entry -/

theorem sameEntries_set {nodes : NodeTable} {i : Fin 64} {n : Node} (here : nodes[i] = some n) (run : NodeRuntime) :
    SameEntries (nodes.set i (some { n with run := run })) nodes := by
  intro j
  rw [set_entry]
  split
  · next at' =>
    subst at'
    rw [here]
    rfl
  · rfl

theorem holdsKind_eq (nodes : NodeTable) (kind : NodeKind) (i : Fin 64) :
    holdsKind nodes kind i = (nodes[i].map Node.entry).any fun e => e.kind == kind := by
  unfold holdsKind
  cases nodes[i] <;> rfl

theorem holdsKind_entries {x y : NodeTable} (same : SameEntries x y) (kind : NodeKind) (i : Fin 64) :
    holdsKind x kind i = holdsKind y kind i := by
  rw [holdsKind_eq, holdsKind_eq, same i]

theorem firstOfKind_entries {x y : NodeTable} (same : SameEntries x y) (kind : NodeKind) :
    firstOfKind x kind = firstOfKind y kind := by
  rw [firstOfKind_eq, firstOfKind_eq, funext (holdsKind_entries same kind)]

theorem effectiveKind_entries {x y : NodeTable} (same : SameEntries x y) (i : Fin 64) {n m : Node} (entry : n.entry = m.entry) :
    effectiveKind x i n = effectiveKind y i m := by
  unfold effectiveKind
  rw [entry, firstOfKind_entries same, firstOfKind_entries same]

/-! ### The kind check (R30) -/

/-- An entry that does not count as OTHER has the kind it is loaded with. -/
theorem effectiveKind_own {s : State} {i : Fin 64} {n : Node} (own : ¬ CountsAsOther s i n) :
    effectiveKind s.nodes i n = n.entry.kind := by
  rw [← effectiveKind_other] at own
  unfold effectiveKind at own ⊢
  cases kind : n.entry.kind
  case starter =>
    rw [kind] at own
    dsimp only at own ⊢
    split
    · rfl
    · next away => exact absurd (if_neg away) own
  case panel =>
    rw [kind] at own
    dsimp only at own ⊢
    split
    · rfl
    · next away => exact absurd (if_neg away) own
  all_goals rfl

/-- An item code belongs to the effective kind of an entry, as table 2-3 has it. -/
theorem codeBelongs_iff {s : State} {i : Fin 64} {n : Node} {code : ItemCode} :
    codeBelongs (effectiveKind s.nodes i n) code = true ↔ Belongs s i n code := by
  unfold Belongs
  by_cases other : CountsAsOther s i n
  · rw [effectiveKind_other.mpr other]
    simp only [other, true_or, or_true, iff_true]
    cases code <;> rfl
  · rw [effectiveKind_own other]
    simp only [other, false_or]
    have notOther : n.entry.kind ≠ .other := fun is => other (.inl is)
    generalize n.entry.kind = kind at notOther
    revert notOther
    cases kind <;> cases code <;> decide

theorem itemOfNumber_number (code : ItemCode) : itemOfNumber (itemNumber code) = some code := by
  cases code <;> rfl

theorem itemOfNumber_none {number : Nat} (none : number = 0 ∨ 8 ≤ number) : itemOfNumber number = Option.none := by
  unfold itemOfNumber
  split <;> first | omega | rfl

/-! ### The filter step (R34 to R39) -/

theorem filterMatches_iff {f : FilterEntry} {station : Byte} {code : ItemCode} :
    filterMatches f station code = true ↔ FilterMatches f station code := by
  unfold filterMatches FilterMatches
  rw [Bool.and_eq_true, beq_iff_eq, stationAgrees_iff]

/-- Does a filter table entry match an item? -/
def hits (station : Byte) (code : ItemCode) (f : Option FilterEntry) : Bool := f.any fun f => filterMatches f station code

theorem hits_iff {station : Byte} {code : ItemCode} {f : Option FilterEntry} :
    hits station code f = true ↔ ∃ g, f = some g ∧ FilterMatches g station code := by
  unfold hits
  cases f <;> simp [filterMatches_iff]

theorem filterAction_gives {s : State} {station : Byte} {code : ItemCode} {action : FilterAction} (kind : NodeKind)
    (gives : FilterGives s station code action) : filterAction s.filters kind station code = action := by
  obtain ⟨k, f, here, hit, is, before⟩ := gives
  have found : s.filters.toList.find? (hits station code) = some (some f) := by
    refine List.find?_eq_some_iff_getElem.mpr ⟨hits_iff.mpr ⟨f, rfl, hit⟩, k.val, by simp, by simpa using here, fun j less => ?_⟩
    rw [Bool.not_eq_true', ← Bool.not_eq_true, hits_iff]
    rintro ⟨g, there, other⟩
    exact before ⟨j, by omega⟩ g less (by simpa using there) other
  have found' : (s.filters.toList.find? fun f => f.any fun f => filterMatches f station code) = some (some f) := found
  unfold filterAction
  rw [found']
  exact is

theorem filterAction_default {s : State} {station : Byte} {code : ItemCode} (kind : NodeKind)
    (none : Unfiltered s station code) : filterAction s.filters kind station code = defaultAction kind code := by
  have found : s.filters.toList.find? (fun f => f.any fun f => filterMatches f station code) = Option.none := by
    refine List.find?_eq_none.mpr fun f mem hit => ?_
    obtain ⟨g, rfl, other⟩ := hits_iff.mp (show hits station code f = true from hit)
    obtain ⟨k, within, there⟩ := List.getElem_of_mem mem
    exact none ⟨k, by simpa using within⟩ g (by simpa using there) other
  unfold filterAction
  rw [found]

/-! ### The item of a REPORT (R4, R29) -/

theorem item_of_report {number age : Nat} (code : number ≤ 15) (old : age ≤ 4095) (value : Byte) :
    itemOfBytes (byteOf (16 * number + age / 256)) (byteOf (age % 256)) value = ⟨number, age, value⟩ := by
  unfold itemOfBytes
  rw [byteOf_toNat (by omega), byteOf_toNat (by omega)]
  congr 1 <;> omega

theorem itemsOf_one (a b c d : Byte) : itemsOf [a, b, c, d] = [itemOfBytes a b c] := rfl

/-- The one item of a good REPORT goes to the Intake Filter. -/
theorem takeReport_one {s : State} {station : Byte} {number age : Nat} {value : Byte} {bytes : List Byte} (now : Tick)
    (report : ReportOf s station number age value bytes) {window : Timer} (awaited : s.deck.phase = .awaiting station window) :
    exec (.deckAnswer now bytes) s =
      .next (endExchange (takeItem station now (notePresent station (advanceTo now s)) ⟨number, age, value⟩)) := by
  obtain ⟨code, old, spare, received⟩ := report
  have content : answerContent s.settings.station station (isPanel s.nodes station) ⟨s.settings.station, station, kindReport,
      [byteOf (16 * number + age / 256), byteOf (age % 256), value, spare]⟩ =
      .report [byteOf (16 * number + age / 256), byteOf (age % 256), value, spare] := by
    simp [answerContent]
  rw [exec_deckAnswer_good awaited received, content, takeContent, takeReport, itemsOf_one, item_of_report code old]
  rfl

/-- The item of a station whose entry is loaded, and which stood PRESENT. -/
theorem takeEntryItem_one {now : Tick} {s : State} {bytes : List Byte} {i : Fin 64} {n : Node} {number age : Nat} {value : Byte}
    (reported : Reported s bytes i n number age value) : exec (.deckAnswer now bytes) s =
      .next (endExchange (match itemOfNumber number with
        | none => count .kindMismatch none (some n.entry.station) (present now s i n)
        | some code => takeEntryItem i { n with run := runtimeAfterAnswer n.run } ⟨number, age, value⟩ code now
          (present now s i n))) := by
  obtain ⟨here, isPresent, ⟨window, awaited⟩, report, law⟩ := reported
  have noted := notePresent_here (now := now) law here (by rw [isPresent]; exact nofun)
  have at' : (present now s i n).nodes[i] = some { n with run := runtimeAfterAnswer n.run } := by
    unfold present
    rw [State.setNodes_nodes, set_entry, if_pos rfl]
  have found : findNode (present now s i n).nodes n.entry.station = some i :=
    findNode_here (n := { n with run := runtimeAfterAnswer n.run })
      (nodeLaw_same (s := s) (sameEntries_set here _) rfl law) at'
  rw [takeReport_one now report awaited, noted]
  unfold takeItem
  dsimp only
  cases itemOfNumber number with
  | none => rfl
  | some code =>
    dsimp only
    rw [found]
    dsimp only
    rw [at']

/-! ### An item of an entry (R30 to R33) -/

/-- The effective kind of the station polled is that of its entry in the table at rest. -/
theorem effectiveKind_present {now : Tick} {s : State} {i : Fin 64} {n : Node} (here : s.nodes[i] = some n) :
    effectiveKind (present now s i n).nodes i { n with run := runtimeAfterAnswer n.run } = effectiveKind s.nodes i n :=
  effectiveKind_entries (sameEntries_set here _) i rfl

theorem setContact_present {now : Tick} {s : State} {i : Fin 64} {n : Node} (contact : ContactState) :
    setContact i contact (present now s i n) = present now s i { n with run := { n.run with contact := contact } } := by
  unfold setContact present
  have at' : (s.nodes.set i (some { n with run := runtimeAfterAnswer n.run }))[i] = some { n with run := runtimeAfterAnswer n.run } := by
    rw [set_entry, if_pos rfl]
  have changed : modifyAt (s.nodes.set i (some { n with run := runtimeAfterAnswer n.run })) i
      (Option.map fun n => { n with run := { n.run with contact := contact } }) =
      s.nodes.set i (some { n with run := runtimeAfterAnswer { n.run with contact := contact } }) := by
    unfold modifyAt
    rw [at']
    exact Vector.set_set ..
  exact congrArg (State.setNodes (advanceTo now s)) changed

/-- An item that its entry's kind does not send (R30). -/
theorem takeEntryItem_mismatch {now : Tick} {s : State} {i : Fin 64} {n : Node} {item : ReportItem} {code : ItemCode}
    (here : s.nodes[i] = some n) (alien : ¬ Belongs s i n code) :
    takeEntryItem i { n with run := runtimeAfterAnswer n.run } item code now (present now s i n) =
      count .kindMismatch n.entry.lane (some n.entry.station) (present now s i n) := by
  unfold takeEntryItem
  dsimp only
  rw [effectiveKind_present here, if_pos (by rw [codeBelongs_iff]; exact alien)]

/-- The state with the one item come to judging, its exchange not ended yet; see `handed`. -/
def handing (now : Tick) (s : State) (i : Fin 64) (n : Node) (code : ItemCode) (age : Nat) (value : Byte)
    (copied : Bool) : State :=
  let p := stamped n age (present now s i n)
  if copied then p.setBoard { p.board with queue := p.board.queue ++ [eventSent now s n code age value] } else p

theorem endExchange_handing (now : Tick) (s : State) (i : Fin 64) (n : Node) (code : ItemCode) (age : Nat) (value : Byte)
    (copied : Bool) : endExchange (handing now s i n code age value copied) = handed now s i n code age value copied := by
  unfold handing handed stamped
  rw [← endExchange_present]
  cases copied <;> split <;> rfl

theorem stamped_eq {n : Node} {age : Nat} {p : State}
    (quiet : age = 4095 → tallyAlarms p.tally .lateStamp n.entry.lane (some n.entry.station) = false) :
    (if (age == Config.saturatedAge) = true then count .lateStamp n.entry.lane (some n.entry.station) p else p) =
      stamped n age p := by
  have saturated : (age == Config.saturatedAge) = true ↔ age = 4095 := beq_iff_eq
  unfold stamped
  by_cases old : age = 4095
  · rw [if_pos (saturated.mpr old), if_pos old]
    exact if_neg (by rw [quiet old]; exact Bool.false_ne_true)
  · rw [if_neg (mt saturated.mp old), if_neg old]

theorem eventOffered {now : Tick} {s p : State} {n : Node} {code : ItemCode} {age : Nat} {value : Byte}
    (settings : p.settings = s.settings) (place : placesTaken p.board.reserved p.board.queue < 32) :
    offer (eventTelegram p n.entry.station code ⟨itemNumber code, age, value⟩ now (eventTick now n.entry.latency age)) p =
      p.setBoard { p.board with queue := p.board.queue ++ [eventSent now s n code age value] } := by
  have bytes : eventTelegram p n.entry.station code ⟨itemNumber code, age, value⟩ now (eventTick now n.entry.latency age) =
      eventSent now s n code age value := by
    unfold eventTelegram boardTelegramOf eventSent boardSent
    rw [settings]
    rfl
  rw [bytes]
  exact offer_free place fun h => nomatch (h : kindEvent = kindSplit)

theorem stamped_fields (n : Node) (age : Nat) (p : State) : (stamped n age p).board = p.board
    ∧ (stamped n age p).settings = p.settings := by
  unfold stamped
  split <;> exact ⟨rfl, rfl⟩

section
variable {now : Tick} {s p : State} {n : Node} {kind : NodeKind} {code : ItemCode} {age : Nat} {value : Byte}

/-- What the filter table and the default give an item, the lack of a judge taken into account (R34, R35, R37). -/
def actionTaken (s : State) (n : Node) (kind : NodeKind) (code : ItemCode) : FilterAction :=
  effectiveAction kind code (filterAction s.filters kind n.entry.station code)

theorem filterItem_drop (filters : p.filters = s.filters) (action : actionTaken s n kind code = .drop) :
    filterItem n.entry kind code ⟨itemNumber code, age, value⟩ now p = p := by
  unfold actionTaken at action
  unfold filterItem
  dsimp only
  rw [filters, action]

theorem filterItem_forward (filters : p.filters = s.filters) (action : actionTaken s n kind code = .forward)
    (settings : p.settings = s.settings) (place : placesTaken p.board.reserved p.board.queue < 32)
    (quiet : age = 4095 → tallyAlarms p.tally .lateStamp n.entry.lane (some n.entry.station) = false) :
    filterItem n.entry kind code ⟨itemNumber code, age, value⟩ now p = (stamped n age p).setBoard { p.board with
      queue := p.board.queue ++ [eventSent now s n code age value] } := by
  obtain ⟨board, settings'⟩ := stamped_fields n age p
  have offered := eventOffered (now := now) (s := s) (p := stamped n age p) (n := n) (code := code) (age := age)
    (value := value) (settings'.trans settings) (by rw [board]; exact place)
  rw [board] at offered
  unfold actionTaken at action
  unfold filterItem
  dsimp only
  rw [filters, action]
  dsimp only
  rw [stamped_eq quiet]
  exact offered

end

/-! ### Notices that an announcement leaves (R135, R170) -/

/-- A change of state that leaves one notice kind. -/
def Spares (j : NoticeKind) (f : State → State) : Prop := ∀ s, (f s).notice j = s.notice j

/-- A notice kind that neither a discard nor a tally overflow raises. -/
def Unforced (j : NoticeKind) : Prop := j ≠ .overrun ∧ j ≠ .tallyOverflow

theorem setStatus_spares {j k : NoticeKind} (other : j ≠ k) (b : Bool) : Spares j (setStatus k b) := by
  intro s
  rw [setStatus_notice, if_neg]
  revert other
  cases j <;> cases k <;> decide

section
variable {j : NoticeKind}

theorem countWith_spares {raise : NoticeKind → State → State} (spares : Spares j (raise .tallyOverflow)) (e : TallyEvent)
    (lane : Option Lane) (station : Option Byte) : Spares j (countWith raise e lane station) := by
  intro s
  unfold countWith
  split
  · exact spares _
  · rfl

theorem offerWith_spares {raise : NoticeKind → State → State} (overflow : Spares j (raise .tallyOverflow))
    (overrun : Spares j (raise .overrun)) (t : Telegram) : Spares j (offerWith raise t) := by
  intro s
  unfold offerWith
  split
  · rfl
  · exact (overrun _).trans (countWith_spares overflow _ _ _ s)

theorem raiseWith_spares {offer : Telegram → State → State} (offers : ∀ t, Spares j (offer t)) {k : NoticeKind}
    (other : j ≠ k) : Spares j (raiseWith offer k) := by
  intro s
  unfold raiseWith
  split
  · rfl
  · dsimp only
    split
    · exact (offers _ _).trans (setStatus_spares other true s)
    · exact setStatus_spares other true s

variable (unforced : Unforced j)
include unforced

theorem offer_spares (t : Telegram) : Spares j (offer t) := by
  obtain ⟨overrun, overflow⟩ := unforced
  have each (n : Nat) : ∀ t, Spares j (offerAt n t) := by
    induction n with
    | zero => exact fun t => offerWith_spares (setStatus_spares overflow true) (setStatus_spares overrun true) t
    | succ n ih => exact fun t => offerWith_spares (raiseWith_spares ih overflow) (raiseWith_spares ih overrun) t
  exact each 2 t

theorem raise_spares {k : NoticeKind} (other : j ≠ k) : Spares j (raise k) :=
  raiseWith_spares (offer_spares unforced) other

theorem count_spares (e : TallyEvent) (lane : Option Lane) (station : Option Byte) : Spares j (count e lane station) :=
  countWith_spares (raise_spares unforced unforced.2) e lane station

end

/-! ### Good answers (R10, R11) -/

/-- A station that was ABSENT comes back. -/
theorem notePresent_back {now : Tick} {s : State} {i : Fin 64} {n : Node} (law : NodeLaw s) (here : s.nodes[i] = some n)
    (absent : n.run.presence = .absent) :
    OnlyAnnounces (present now s i n) (notePresent n.entry.station (advanceTo now s))
      ∧ ((notePresent n.entry.station (advanceTo now s)).notice .nodeBack).status = true
      ∧ ((∀ (j : Fin 64) (m : Node), j ≠ i → s.nodes[j] = some m → m.run.presence ≠ .absent) →
        ((notePresent n.entry.station (advanceTo now s)).notice .nodeLost).status = false) := by
  have presence : stationPresence (advanceTo now s).nodes n.entry.station = some .absent :=
    (stationPresence_here law here).trans (congrArg some absent)
  have changed : changeRuntime (advanceTo now s).nodes n.entry.station runtimeAfterAnswer =
      s.nodes.set i (some { n with run := runtimeAfterAnswer n.run }) := changeRuntime_here law here _
  have noted : notePresent n.entry.station (advanceTo now s) = raise .nodeBack
      (setNodesReporting (s.nodes.set i (some { n with run := runtimeAfterAnswer n.run })) (advanceTo now s)) := by
    unfold notePresent
    dsimp only
    rw [if_pos presence, changed]
  rw [noted]
  refine ⟨(setNodesReporting_onlyAnnounces _ (advanceTo now s)).trans (raise_onlyAnnounces _ _), raise_sets _ _, fun others => ?_⟩
  have before : nodeLost (advanceTo now s).nodes = true := nodeLost_iff.mpr ⟨i, n, here, absent⟩
  have after : nodeLost (s.nodes.set i (some { n with run := runtimeAfterAnswer n.run })) = false := by
    refine Bool.eq_false_iff.mpr fun lost => ?_
    obtain ⟨j, m, there, absent'⟩ := nodeLost_iff.mp lost
    rw [set_entry] at there
    split at there
    · cases there
      exact nomatch absent'
    · next other => exact others j m other there absent'
  rw [raise_spares (by decide : NoticeKind.nodeLost ≠ .overrun ∧ NoticeKind.nodeLost ≠ .tallyOverflow) (by decide)]
  unfold setNodesReporting
  rw [before, after, if_neg (by decide), if_neg (by decide)]
  exact congrArg Notice.status ((setStatus_notice .nodeLost .nodeLost false _).trans (if_pos rfl))

theorem takeItem_unheld {station : Byte} {now : Tick} {s : State} {item : ReportItem} (none : findNode s.nodes station = none) :
    takeItem station now s item = count .kindMismatch Option.none (some station) s := by
  unfold takeItem
  cases itemOfNumber item.code with
  | none => rfl
  | some code =>
    dsimp only
    rw [none]

theorem notePresent_unheld {station : Byte} {s : State} (none : findNode s.nodes station = none) : notePresent station s = s := by
  have presence : ¬ stationPresence s.nodes station = some .absent := by
    unfold stationPresence
    rw [none]
    exact nofun
  have changed : changeRuntime s.nodes station runtimeAfterAnswer = s.nodes := by
    unfold changeRuntime
    rw [none]
  unfold notePresent
  dsimp only
  rw [if_neg presence, changed]
  exact setNodesReporting_same rfl

/-- The answer to a mismatch: KIND_MISMATCH counted, the exchange ended. -/
theorem mismatch_counted {p : State} (free : PlacesFree 1 p) (lane : Option Lane) (station : Option Byte) :
    OnlyAnnounces (endExchange p) (endExchange (count .kindMismatch lane station p))
      ∧ (endExchange (count .kindMismatch lane station p)).tally = tallyAfter p.tally .kindMismatch lane station :=
  ⟨(count_onlyAnnounces .kindMismatch lane station p).endExchange, count_tally_free free .kindMismatch lane station⟩

/-- A pad that counts as OTHER there is not. -/
theorem pad_own {s : State} {i : Fin 64} {n : Node} (pad : n.entry.kind = .pad) : ¬ CountsAsOther s i n := by
  rintro (other | ⟨first, _⟩)
  · exact nomatch pad.symm.trans other
  · rw [pad] at first
    exact first.elim nofun nofun

/-- The state in which an item that passes the kind check and the contact step comes to the filter step. -/
theorem takeEntryItem_passed {now : Tick} {s : State} {i : Fin 64} {n : Node} {age : Nat} {value : Byte} {code : ItemCode}
    (here : s.nodes[i] = some n) (belongs : Belongs s i n code)
    (touches : n.entry.kind = .pad ∧ code = .contact →
      n.entry.threshold ≤ value.toNat ∧ (n.entry.mode = .level ∨ n.run.contact = .below)) :
    takeEntryItem i { n with run := runtimeAfterAnswer n.run } ⟨itemNumber code, age, value⟩ code now (present now s i n) =
      filterItem n.entry (effectiveKind s.nodes i n) code ⟨itemNumber code, age, value⟩ now (present now s i
        (if n.entry.kind = .pad ∧ code = .contact then { n with run := { n.run with contact := .above } } else n)) := by
  have kind := effectiveKind_present (now := now) here
  have isPad : effectiveKind s.nodes i n = .pad ↔ n.entry.kind = .pad := by
    constructor
    · intro pad
      by_cases other : CountsAsOther s i n
      · rw [effectiveKind_other.mpr other] at pad
        exact nomatch pad
      · rwa [effectiveKind_own other] at pad
    · exact fun pad => (effectiveKind_own (pad_own pad)).trans pad
  unfold takeEntryItem
  dsimp only
  rw [kind, if_neg (by rw [codeBelongs_iff]; exact not_not_intro belongs)]
  by_cases contact : n.entry.kind = .pad ∧ code = .contact
  · obtain ⟨high, ready⟩ := touches contact
    have candidate : isCandidate { n with run := runtimeAfterAnswer n.run } value = true := by
      unfold isCandidate atThreshold runtimeAfterAnswer
      simpa using ⟨high, ready⟩
    have after : contactAfter n.entry value = .above := if_pos (decide_eq_true high)
    rw [if_pos ⟨isPad.mpr contact.1, contact.2⟩, if_pos candidate, if_pos contact, after, setContact_present]
  · rw [if_neg fun both => contact ⟨isPad.mp both.1, both.2⟩, if_neg contact]

theorem noJudge_iff {s : State} {i : Fin 64} {n : Node} {code : ItemCode} :
    (code = .generic ∨ CountsAsOther s i n) ↔ (code = .generic ∨ effectiveKind s.nodes i n = .other) := by
  rw [effectiveKind_other]

/-- The action taken where no judge is: CONSUME is taken as DROP and COPY as FORWARD (R37). -/
def withoutJudge : FilterAction → FilterAction
  | .consume | .drop => .drop
  | .copy | .forward => .forward

theorem actionTaken_unjudged {s : State} {n : Node} {kind : NodeKind} {code : ItemCode} {action : FilterAction}
    (unjudged : code = .generic ∨ kind = .other) (is : filterAction s.filters kind n.entry.station code = action) :
    actionTaken s n kind code = withoutJudge action := by
  unfold actionTaken effectiveAction
  rw [if_pos unjudged, is]
  cases action <;> rfl

theorem actionTaken_given {s : State} {n : Node} {kind : NodeKind} {code : ItemCode} {action : FilterAction}
    (gives : FilterGives s n.entry.station code action) (ends : action = .drop ∨ action = .forward) :
    actionTaken s n kind code = action := by
  unfold actionTaken effectiveAction
  rw [filterAction_gives kind gives]
  split
  · rcases ends with rfl | rfl <;> rfl
  · rfl

theorem actionTaken_judged {s : State} {n : Node} {kind : NodeKind} {code : ItemCode} {action : FilterAction}
    (judged : ¬ (code = .generic ∨ kind = .other)) (is : filterAction s.filters kind n.entry.station code = action) :
    actionTaken s n kind code = action := by
  unfold actionTaken effectiveAction
  rw [if_neg judged, is]

/-- Settles O10: what the good answer leaves, and the item's way through the Intake Filter. -/
theorem goodAnswerMakesPresent : Obligations.GoodAnswerMakesPresent := by
  refine ⟨fun now bytes s i n window law here awaited received => ?_,
    fun now bytes s station window number age value none awaited report free => ?_,
    fun now bytes s i n number age value reported free => ?_⟩
  · intro back
    have taken : exec (.deckAnswer now bytes) s = .next (endExchange (notePresent n.entry.station (advanceTo now s))) := by
      have content : answerContent s.settings.station n.entry.station (isPanel s.nodes n.entry.station)
          ⟨s.settings.station, n.entry.station, kindReport, []⟩ = .report [] := by
        simp [answerContent]
      rw [exec_deckAnswer_good awaited received, content, takeContent]
      rfl
    refine ⟨fun came => ?_, fun absent => ?_⟩
    · rw [taken, notePresent_here law here came, endExchange_present]
    · obtain ⟨announces, backSet, lost⟩ := notePresent_back (now := now) law here absent
      exact ⟨_, taken, announces.endExchange, backSet, lost⟩
  · intro u
    have unheld : findNode u.nodes station = Option.none := findNode_none.mpr none
    obtain ⟨announces, tally⟩ := mismatch_counted (p := u) free Option.none (some station)
    refine ⟨_, ?_, announces, tally⟩
    rw [takeReport_one now report awaited, notePresent_unheld unheld, takeItem_unheld unheld]
  · intro Mismatch
    have taken := takeEntryItem_one (now := now) reported
    have here := reported.node
    have mismatched (lane : Option Lane) (is : exec (.deckAnswer now bytes) s =
        .next (endExchange (count .kindMismatch lane (some n.entry.station) (present now s i n)))) : Mismatch lane := by
      obtain ⟨announces, tally⟩ := mismatch_counted (p := present now s i n) free lane (some n.entry.station)
      exact ⟨_, is, announces, tally⟩
    refine ⟨fun alien => mismatched Option.none ?_, fun code is => ?_⟩
    · rw [taken, itemOfNumber_none alien]
    subst is
    rw [itemOfNumber_number] at taken
    dsimp only at taken
    intro contact noJudge gives h
    refine ⟨fun alien => mismatched n.entry.lane ?_, fun belongs touches => ?_⟩
    · rw [taken, takeEntryItem_mismatch here alien]
    · rw [takeEntryItem_passed here belongs touches] at taken
      obtain ⟨n', isN⟩ : ∃ n', n' = if n.entry.kind = .pad ∧ code = .contact then
          { n with run := { n.run with contact := .above } } else n := ⟨_, rfl⟩
      have isH : h = heard now s i n' := by
        rw [isN]
      rw [← isN] at taken
      clear isN
      refine ⟨fun dropped => ?_, fun forwarded quiet => ?_⟩
      · rw [isH]
        have action : actionTaken s n (effectiveKind s.nodes i n) code = .drop := by
          rcases dropped with dropped | ⟨unjudged, consumed⟩
          · exact actionTaken_given dropped (.inl rfl)
          · exact (actionTaken_unjudged (noJudge_iff.mp unjudged) (filterAction_gives _ consumed)).trans rfl
        rw [taken, filterItem_drop (p := present now s i n') rfl action, endExchange_present]
      · rw [isH]
        have action : actionTaken s n (effectiveKind s.nodes i n) code = .forward := by
          rcases forwarded with forwarded | ⟨unjudged, copied | unfiltered⟩
          · exact actionTaken_given forwarded (.inr rfl)
          · exact (actionTaken_unjudged (noJudge_iff.mp unjudged) (filterAction_gives _ copied)).trans rfl
          · refine (actionTaken_unjudged (noJudge_iff.mp unjudged) (filterAction_default _ unfiltered)).trans ?_
            exact congrArg withoutJudge (if_pos (noJudge_iff.mp unjudged))
        rw [taken, filterItem_forward (p := present now s i n') rfl action rfl (placesFree_one free) quiet]
        refine congrArg Host.Outcome.next ?_
        unfold stamped
        split <;> rfl

end Sys2Proof.Machine
end
section
/-! Items that come to judging, and the judge's tests of presses, releases and touches (R37, R96, R102 to R105, R110). -/

namespace Sys2Proof.Machine

/-! ### The item at its judge (R37 to R40) -/

section
variable {now : Tick} {s : State} {bytes : List Byte} {i : Fin 64} {n : Node} {code : ItemCode} {age : Nat} {value : Byte}
  {copied : Bool}

theorem IsFirst.own {kind : NodeKind} (first : IsFirst s kind i) (here : s.nodes[i] = some n) :
    n.entry.kind = kind := by
  obtain ⟨⟨m, there, is⟩, _⟩ := first
  cases here.symm.trans there
  exact is

theorem starter_own (here : s.nodes[i] = some n) (first : IsFirst s .starter i) : ¬ CountsAsOther s i n := by
  have kind := first.own here
  rintro (other | ⟨_, notFirst⟩)
  · exact nomatch kind.symm.trans other
  · exact notFirst (by rwa [kind])

theorem stamped_parts (p : State) : ∃ t, stamped n age p = p.setTally t := by
  unfold stamped
  split
  · exact ⟨_, rfl⟩
  · exact ⟨p.tally, rfl⟩

theorem handing_parts (now : Tick) (s : State) (i : Fin 64) (n : Node) (code : ItemCode) (age : Nat) (value : Byte)
    (copied : Bool) : ∃ t b, handing now s i n code age value copied = ((present now s i n).setTally t).setBoard b
      ∧ b.reserved = s.board.reserved ∧ b.queue.length = s.board.queue.length + copied.toNat := by
  obtain ⟨t, is⟩ := stamped_parts (n := n) (age := age) (present now s i n)
  unfold handing
  rw [is]
  cases copied
  · exact ⟨t, _, rfl, rfl, rfl⟩
  · exact ⟨t, _, rfl, rfl, List.length_append ..⟩

@[simp] theorem handing_lanes : (handing now s i n code age value copied).lanes = s.lanes := by
  obtain ⟨t, b, is, _⟩ := handing_parts now s i n code age value copied
  rw [is]
  rfl

@[simp] theorem handing_heat : (handing now s i n code age value copied).heat = s.heat := by
  obtain ⟨t, b, is, _⟩ := handing_parts now s i n code age value copied
  rw [is]
  rfl

@[simp] theorem handing_banks : (handing now s i n code age value copied).banks = s.banks := by
  obtain ⟨t, b, is, _⟩ := handing_parts now s i n code age value copied
  rw [is]
  rfl

@[simp] theorem handing_head : (handing now s i n code age value copied).head = s.head := by
  unfold State.head State.activeBank
  rw [handing_banks]

@[simp] theorem handing_raceTime (tick : Tick) :
    (handing now s i n code age value copied).raceTime tick = s.raceTime tick := by
  unfold State.raceTime
  rw [handing_heat]

theorem handing_free {k : Nat} (free : PlacesFree (k + copied.toNat) s) :
    PlacesFree k (handing now s i n code age value copied) := by
  obtain ⟨t, b, is, reserved, length⟩ := handing_parts now s i n code age value copied
  obtain ⟨unreserved, room⟩ := free
  rw [is]
  refine ⟨reserved.trans unreserved, ?_⟩
  rw [State.setBoard_board, length]
  omega

/-- An item that has a judge, at the filter step. -/
theorem filterItem_judged {p : State} {kind : NodeKind} (filters : p.filters = s.filters)
    (action : actionTaken s n kind code = if copied then .copy else .consume) (settings : p.settings = s.settings)
    (place : copied = true → placesTaken p.board.reserved p.board.queue < 32)
    (quiet : age = 4095 → tallyAlarms p.tally .lateStamp n.entry.lane (some n.entry.station) = false) :
    filterItem n.entry kind code ⟨itemNumber code, age, value⟩ now p =
      handToJudge n.entry kind code (eventTick now n.entry.latency age) (age == 4095)
        (if copied then (stamped n age p).setBoard { (stamped n age p).board with
          queue := (stamped n age p).board.queue ++ [eventSent now s n code age value] } else stamped n age p) := by
  obtain ⟨board, settings'⟩ := stamped_fields n age p
  unfold actionTaken at action
  unfold filterItem
  dsimp only
  rw [filters, action]
  cases copied with
  | false =>
    rw [if_neg Bool.false_ne_true, if_neg Bool.false_ne_true]
    dsimp only
    rw [stamped_eq quiet]
    rfl
  | true =>
    rw [if_pos rfl, if_pos rfl]
    dsimp only
    rw [stamped_eq quiet, eventOffered (s := s) (settings'.trans settings) (by rw [board]; exact place rfl)]
    rfl

/-- The action of an item that has a judge. -/
theorem SoleItem.action {kind : NodeKind} (sole : SoleItem s bytes i n code age value copied)
    (real : ¬ (code = .generic ∨ kind = .other)) :
    actionTaken s n kind code = if copied then .copy else .consume := by
  rcases sole.judged with gives | ⟨plain, unfiltered⟩
  · exact actionTaken_judged real (filterAction_gives kind gives)
  · subst plain
    exact actionTaken_judged real ((filterAction_default kind unfiltered).trans (if_neg real))

/-- The item reaches the judge of its kind; `run` is the entry's runtime after the contact step. -/
theorem exec_judged {run : NodeRuntime} (sole : SoleItem s bytes i n code age value copied) {k : Nat}
    (free : PlacesFree (k + copied.toNat) s) (own : ¬ CountsAsOther s i n) (real : code ≠ .generic)
    (belongs : Belongs s i n code)
    (touches : n.entry.kind = .pad ∧ code = .contact →
      n.entry.threshold ≤ value.toNat ∧ (n.entry.mode = .level ∨ n.run.contact = .below))
    (after : (if n.entry.kind = .pad ∧ code = .contact then { n with run := { n.run with contact := .above } } else n) =
      { n with run := run }) :
    exec (.deckAnswer now bytes) s = .next (endExchange (handToJudge n.entry n.entry.kind code
      (eventTick now n.entry.latency age) (age == 4095)
      (handing now s i { n with run := run } code age value copied))) := by
  have here := sole.reported.node
  have taken := takeEntryItem_one (now := now) sole.reported
  rw [itemOfNumber_number] at taken
  dsimp only at taken
  have notOther : n.entry.kind ≠ .other := fun is => own (.inl is)
  rw [takeEntryItem_passed here belongs touches, effectiveKind_own own, after, filterItem_judged (s := s)
    (p := present now s i { n with run := run }) rfl (sole.action fun no => no.elim real notOther) rfl ?_ sole.quiet] at taken
  · exact taken
  · rintro rfl
    exact placesFree_one (s := s) ⟨free.1, Nat.le_trans (Nat.add_le_add_left (Nat.le_add_left 1 k) _) free.2⟩

/-- The item of an entry that is no pad reaches its judge. -/
theorem exec_judged_plain (sole : SoleItem s bytes i n code age value copied) {k : Nat}
    (free : PlacesFree (k + copied.toNat) s) (own : ¬ CountsAsOther s i n) (real : code ≠ .generic) (notPad : code ≠ .contact)
    (belongs : Belongs s i n code) :
    exec (.deckAnswer now bytes) s = .next (endExchange (handToJudge n.entry n.entry.kind code
      (eventTick now n.entry.latency age) (age == 4095) (handing now s i n code age value copied))) :=
  exec_judged (run := n.run) sole free own real belongs (fun both => absurd both.2 notPad)
    (if_neg fun both => notPad both.2)

end

/-- An event counted at the end of judging, with a place free for a NOTICE. -/
theorem counted_last {c : Instr} {s p w : State} {e : TallyEvent} {lane : Option Lane} {station : Option Byte}
    (free : PlacesFree 1 p) (w_eq : endExchange p = w) (taken : exec c s = .next (endExchange (count e lane station p))) :
    ∃ t, exec c s = .next t ∧ OnlyAnnounces w t ∧ t.tally = tallyAfter w.tally e lane station := by
  subst w_eq
  exact ⟨_, taken, (count_onlyAnnounces e lane station p).endExchange, count_tally_free free e lane station⟩

/-- A lane record changed before the exchange ends. -/
theorem endExchange_setLane {p h : State} (is : endExchange p = h) (lane : Lane) (r : LaneRecord) :
    endExchange (setLane lane r p) = withLane h lane r := by
  subst is
  rfl

/-! ### Presses (R110, R111) -/

theorem judgePress_idle {s : State} (none : s.heat.startTick = none) (lane : Lane) (place : PoolEnd) (position : Nat)
    (tick : Tick) : judgePress s lane place position tick = .rejected .pressStray := by
  unfold judgePress State.raceTime
  rw [none]
  rfl

/-- A press that table 6-7 makes a stray: outside a race of its lane, at the other end, outside its limits, or with the
buttons not open. -/
def StrayPress (s : State) (r : LaneRecord) (place : PoolEnd) (time : Int) : Prop :=
  ¬ ((s.heat.state = .running ∨ s.heat.state = .closing) ∧ (r.state = .swimming ∨ r.state = .finished))
  ∨ place ≠ (if s.head.lengths % 2 = 1 then .turn else .start)
  ∨ time < 1000 * (s.head.minLength : Int) ∨ 1000000 * (s.head.heatLimit : Int) < time
  ∨ (r.state = .swimming ∧ r.lengthCount + 1 < s.head.lengths
      ∧ (s.head.buttonArming = 0 ∨ time < 1000000 * (s.head.buttonArming : Int)))

theorem buttonsOpen_iff {h : HeatHead} {r : LaneRecord} {time : Int} (racing : r.state = .swimming ∨ r.state = .finished) :
    ¬ buttonsOpen h r time ↔ r.state = .swimming ∧ r.lengthCount + 1 < h.lengths
      ∧ (h.buttonArming = 0 ∨ time < 1000000 * (h.buttonArming : Int)) := by
  unfold buttonsOpen secToMicros
  rcases racing with is | is
  · simp [is]
    omega
  · simp [is]

section
variable {s : State} {lane : Lane} {place : PoolEnd} {position : Nat} {tick start : Tick}

theorem judgePress_started (started : s.heat.startTick = some start) (time : Int) (isTime : time = tickDiff tick start) :
    (StrayPress s s.lanes[lane] place time → judgePress s lane place position tick = .rejected .pressStray)
    ∧ (¬ StrayPress s s.lanes[lane] place time → (∃ x ∈ s.lanes[lane].samples, x.position = position) →
      judgePress s lane place position tick = .rejected .pressDup)
    ∧ (¬ StrayPress s s.lanes[lane] place time → (¬ ∃ x ∈ s.lanes[lane].samples, x.position = position) →
      judgePress s lane place position tick = .accepted time) := by
  have raced : s.raceTime tick = some time := by
    unfold State.raceTime
    rw [started, isTime]
    rfl
  have dup : (s.lanes[lane].samples.any fun x => x.position == position) = true ↔
      ∃ x ∈ s.lanes[lane].samples, x.position = position := by
    simp
  have least : ((msToMicros s.head.minLength : Nat) : Int) = 1000 * (s.head.minLength : Int) := by
    unfold msToMicros
    omega
  have limit : ((secToMicros s.head.heatLimit : Nat) : Int) = 1000000 * (s.head.heatLimit : Int) := by
    unfold secToMicros
    omega
  unfold judgePress StrayPress finishEnd
  dsimp only
  rw [raced]
  dsimp only
  rw [least, limit]
  by_cases race : (s.heat.state = .running ∨ s.heat.state = .closing)
      ∧ (s.lanes[lane].state = .swimming ∨ s.lanes[lane].state = .finished)
  · have closed := buttonsOpen_iff (h := s.head) (time := time) race.2
    rw [if_neg (not_not_intro race)]
    refine ⟨fun stray => ?_, fun clear held => ?_, fun clear fresh => ?_⟩
    · rcases stray with out | away | early | late | shut
      · exact absurd race out
      · rw [if_pos away]
      · rw [if_pos (c := _ ∨ _) (.inl early), ite_self]
      · rw [if_pos (c := _ ∨ _) (.inr late), ite_self]
      · rw [if_pos (closed.mpr shut), ite_self, ite_self]
    · obtain ⟨_, at', low, high, shut⟩ := by simpa only [not_or] using clear
      rw [if_neg at', if_neg (by simpa only [not_or] using ⟨low, high⟩), if_neg (mt closed.mp shut), if_pos (dup.mpr held)]
    · obtain ⟨_, at', low, high, shut⟩ := by simpa only [not_or] using clear
      rw [if_neg at', if_neg (by simpa only [not_or] using ⟨low, high⟩), if_neg (mt closed.mp shut), if_neg (mt dup.mp fresh)]
  · rw [if_pos race]
    exact ⟨fun _ => rfl, fun clear => absurd (.inl race) clear, fun clear => absurd (.inl race) clear⟩

end

/-- Settles O20: the tests of table 6-7 in order, then the tally event of the press. -/
theorem pressIsJudged : Obligations.PressIsJudged := by
  intro now bytes s i n age value lane place position copied sole kind isLane isPlace isPosition free h r held Judged
  obtain ⟨p, isP⟩ : ∃ p, p = handing now s i n .press age value copied := ⟨_, rfl⟩
  have isH : endExchange p = h := isP ▸ endExchange_handing now s i n .press age value copied
  have free' : PlacesFree 1 p := isP ▸ handing_free free
  have heat : p.heat = s.heat := isP ▸ handing_heat
  have head : p.head = s.head := isP ▸ handing_head
  have lanes : p.lanes = s.lanes := isP ▸ handing_lanes
  have own : ¬ CountsAsOther s i n := by
    rintro (other | ⟨first, _⟩)
    · exact nomatch kind.symm.trans other
    · rw [kind] at first
      exact first.elim nofun nofun
  have taken := exec_judged_plain (now := now) sole free own nofun nofun (.inr (.inr (.inr (.inr (.inr ⟨kind, rfl⟩)))))
  rw [← isP] at taken
  clear_value h
  clear isP
  unfold handToJudge at taken
  rw [kind, isLane, isPlace, isPosition] at taken
  simp only [Option.getD_some] at taken
  have isR : r = p.lanes[lane] := by rw [lanes]
  have rejects (e : TallyEvent) (judged : judgePress p lane place position (eventTick now n.entry.latency age) = .rejected e) :
      Judged r e := by
    unfold takePress at taken
    rw [judged] at taken
    refine counted_last free' ?_ taken
    rw [← endExchange_setLane isH, isR, setLane_same, isH]
  refine ⟨fun idle => rejects _ (judgePress_idle (by rwa [heat]) lane place position _), fun start started => ?_⟩
  intro time stray
  obtain ⟨isStray, isDup, isGood⟩ := judgePress_started (s := p) (lane := lane) (place := place) (position := position)
    (tick := eventTick now n.entry.latency age) (by rw [heat]; exact started) time rfl
  have same : StrayPress p p.lanes[lane] place time ↔ stray := by
    unfold StrayPress
    rw [heat, head, ← isR]
  rw [same] at isStray
  rw [same, ← isR] at isDup isGood
  refine ⟨fun is => rejects _ (isStray is), fun not dup => rejects _ (isDup not dup), fun not fresh => ?_⟩
  have judged := isGood not fresh
  unfold takePress at taken
  rw [judged] at taken
  dsimp only at taken
  rw [← isR] at taken
  exact counted_last (p := setLane lane _ p) free' (endExchange_setLane isH _ _) taken

end Sys2Proof.Machine
end
section
/-! Block releases and the tests of pad touches (R31, R32, R96, R98, R102 to R105). -/

namespace Sys2Proof.Machine

/-! ### Releases (table 6-4, R102 to R105) -/

/-- A notice raised at the end of judging. -/
theorem raised_last {c : Instr} {s p w : State} {k : NoticeKind} (w_eq : endExchange p = w)
    (taken : exec c s = .next (endExchange (raise k p))) :
    ∃ t, exec c s = .next t ∧ OnlyAnnounces w t ∧ (t.notice k).status = true := by
  subst w_eq
  exact ⟨_, taken, (raise_onlyAnnounces k p).endExchange, raise_sets k p⟩

section
variable {s : State} {lane : Lane} {tick start : Tick} {late : Bool} {station : Byte}

theorem takeRelease_armed (armed : s.heat.state = .armed) : takeRelease lane tick late station s = s := by
  unfold takeRelease
  rw [armed]

theorem takeRelease_marks (marks : s.heat.state = .marks) (waiting : s.lanes[lane].state = .waiting) :
    takeRelease lane tick late station s = takeFalseStart lane tick late station s := by
  unfold takeRelease
  rw [marks]
  exact if_pos waiting

/-- A release is a stray outside a race, and in one on a lane that does not take it. -/
theorem takeRelease_stray (stray : s.heat.state = .idle ∨ s.heat.state = .closed
      ∨ (s.heat.state = .marks ∧ s.lanes[lane].state ≠ .waiting)
      ∨ ((s.heat.state = .running ∨ s.heat.state = .closing) ∧ s.lanes[lane].state ≠ .swimming)) :
    takeRelease lane tick late station s = count .releaseStray (some lane) (some station) s := by
  unfold takeRelease
  rcases stray with is | is | ⟨is, out⟩ | ⟨is | is, out⟩ <;> rw [is] <;> dsimp only
  · exact if_neg out
  all_goals
    cases s.raceTime tick with
    | none => rfl
    | some time => exact if_neg out

theorem raceTime_started (started : s.heat.startTick = some start) (tick : Tick) :
    s.raceTime tick = some (tickDiff tick start) := by
  unfold State.raceTime
  rw [started]
  rfl

theorem takeRelease_race (racing : s.heat.state = .running ∨ s.heat.state = .closing)
    (started : s.heat.startTick = some start) (swims : s.lanes[lane].state = .swimming) :
    takeRelease lane tick late station s = takeRaceRelease lane tick (tickDiff tick start) late station s := by
  unfold takeRelease
  rcases racing with is | is <;> rw [is, raceTime_started started] <;> exact if_pos swims

theorem takeRaceRelease_reaction {time : Int} (first : s.lanes[lane].lengthCount = 0) (none : s.lanes[lane].reaction = none) :
    takeRaceRelease lane tick time late station s = takeReaction lane time late s := by
  unfold takeRaceRelease
  dsimp only
  rw [if_pos first, if_pos (by rw [none]; rfl)]

theorem takeRaceRelease_dup {time : Int} (first : s.lanes[lane].lengthCount = 0) (some : s.lanes[lane].reaction ≠ none) :
    takeRaceRelease lane tick time late station s = count .releaseDup (.some lane) (.some station) s := by
  unfold takeRaceRelease
  dsimp only
  rw [if_pos first, if_neg (by rwa [Option.isNone_iff_eq_none])]

theorem takeRaceRelease_stray {time : Int} (later : 1 ≤ s.lanes[lane].lengthCount)
    (spent : s.head.legs ≤ 1 ∨ s.head.legs ≤ s.lanes[lane].exchanges.length + 1) :
    takeRaceRelease lane tick time late station s = count .releaseStray (some lane) (some station) s := by
  unfold takeRaceRelease exchangeRemains
  dsimp only
  rw [if_neg (by omega), if_neg]
  rw [decide_eq_true_eq]
  omega

end

/-- Settles O19: a block release by heat state, lane state and what the record holds. -/
theorem releaseIsJudged : Obligations.ReleaseIsJudged := by
  intro now bytes s i n age value lane copied sole kind isLane free h r late event racing Counted Raised
  obtain ⟨p, isP⟩ : ∃ p, p = handing now s i n .release age value copied := ⟨_, rfl⟩
  have isH : endExchange p = h := isP ▸ endExchange_handing now s i n .release age value copied
  have free' : PlacesFree 2 p := isP ▸ handing_free free
  have one : PlacesFree 1 p := ⟨free'.1, Nat.le_trans (Nat.le_succ _) free'.2⟩
  have heat : p.heat = s.heat := isP ▸ handing_heat
  have head : p.head = s.head := isP ▸ handing_head
  have lanes : p.lanes = s.lanes := isP ▸ handing_lanes
  have isR : r = p.lanes[lane] := by rw [lanes]
  have own : ¬ CountsAsOther s i n := by
    rintro (other | ⟨first, _⟩)
    · exact nomatch kind.symm.trans other
    · rw [kind] at first
      exact first.elim nofun nofun
  have taken := exec_judged_plain (now := now) sole free own nofun nofun (.inr (.inr (.inr (.inl ⟨kind, rfl⟩))))
  rw [← isP] at taken
  clear_value h
  clear isP
  unfold handToJudge at taken
  rw [kind, isLane] at taken
  dsimp only at taken
  have counts {e : TallyEvent} (judged : takeRelease lane event late n.entry.station p =
      count e (some lane) (some n.entry.station) p) : Counted e :=
    counted_last one isH (taken.trans (by rw [judged]))
  have raises {record : LaneRecord} (judged : takeRelease lane event late n.entry.station p =
      raise .earlyRelease (setLane lane record p)) : Raised record :=
    raised_last (endExchange_setLane isH lane record) (taken.trans (by rw [judged]))
  refine ⟨fun armed => ?_, fun marks waiting none => raises ?_, fun marks waiting some => counts ?_,
    fun stray => counts (takeRelease_stray ?_), fun start started race swims => ?_⟩
  · rw [taken, takeRelease_armed (by rwa [heat]), isH]
  · rw [takeRelease_marks (by rwa [heat]) (by rwa [← isR])]
    unfold takeFalseStart
    dsimp only
    rw [← isR, if_neg (by rw [none]; exact Bool.false_ne_true)]
  · rw [takeRelease_marks (by rwa [heat]) (by rwa [← isR])]
    unfold takeFalseStart
    dsimp only
    rw [← isR, if_pos (Option.isSome_iff_ne_none.mpr some)]
  · rw [heat, ← isR]
    exact stray
  · have judged := takeRelease_race (s := p) (lane := lane) (tick := event) (late := late) (station := n.entry.station)
      (by rwa [heat]) (by rwa [heat]) (by rwa [← isR])
    intro time
    refine ⟨fun first none slow => ?_, fun first none early => raises ?_, fun first some => counts ?_,
      fun later spent => counts ?_⟩
    · have reaction := judged.trans (takeRaceRelease_reaction (by rwa [← isR]) (by rwa [← isR]))
      unfold takeReaction at reaction
      dsimp only at reaction
      rw [if_neg (Int.not_lt.mpr slow), ← isR] at reaction
      rw [taken, reaction, endExchange_setLane isH, decide_eq_false (Int.not_lt.mpr slow), Bool.or_false]
    · rw [judged, takeRaceRelease_reaction (by rwa [← isR]) (by rwa [← isR])]
      unfold takeReaction
      dsimp only
      rw [if_pos early, ← isR, decide_eq_true early, Bool.or_true]
    · exact judged.trans (takeRaceRelease_dup (by rwa [← isR]) (by rwa [← isR]))
    · exact judged.trans (takeRaceRelease_stray (by rwa [← isR]) (by rwa [head, ← isR]))

/-! ### Touch candidates (R31, R32, R96, R98) -/

section
variable {now : Tick} {s : State} {bytes : List Byte} {i : Fin 64} {n : Node} {age : Nat} {value : Byte} {copied : Bool}

/-- A contact that is no touch candidate leaves its contact state alone. -/
theorem exec_contact_idle {touched : Node} (sole : SoleItem s bytes i n .contact age value copied) (pad : n.entry.kind = .pad)
    (isTouched : touched = { n with run := { n.run with
      contact := if n.entry.threshold ≤ value.toNat then .above else .below } })
    (candidate : ¬ (n.entry.threshold ≤ value.toNat ∧ (n.entry.mode = .level ∨ n.run.contact = .below))) :
    exec (.deckAnswer now bytes) s = .next (heard now s i touched) := by
  have here := sole.reported.node
  have taken := takeEntryItem_one (now := now) sole.reported
  rw [itemOfNumber_number] at taken
  dsimp only at taken
  have kind := (effectiveKind_present (now := now) here).trans (effectiveKind_own (pad_own pad))
  rw [pad] at kind
  have not : isCandidate { n with run := runtimeAfterAnswer n.run } value = false := by
    rw [Bool.eq_false_iff]
    unfold isCandidate atThreshold runtimeAfterAnswer
    simpa using candidate
  have after : contactAfter n.entry value = if n.entry.threshold ≤ value.toNat then .above else .below := by
    unfold contactAfter atThreshold
    simp
  have through : takeEntryItem i { n with run := runtimeAfterAnswer n.run } ⟨itemNumber .contact, age, value⟩ .contact now
      (present now s i n) = present now s i touched := by
    unfold takeEntryItem
    dsimp only
    rw [kind, if_neg (by exact nofun), if_pos ⟨rfl, rfl⟩, not, if_neg Bool.false_ne_true, setContact_present, after,
      ← isTouched]
  rw [taken, through, endExchange_present]

/-- A touch candidate reaches the Lane Judge. -/
theorem exec_touch {lane : Lane} {place : PoolEnd} (sole : SoleItem s bytes i n .contact age value copied)
    (pad : n.entry.kind = .pad) (isLane : n.entry.lane = some lane) (isPlace : n.entry.poolEnd = some place) {k : Nat}
    (free : PlacesFree (k + copied.toNat) s) (high : n.entry.threshold ≤ value.toNat)
    (ready : n.entry.mode = .level ∨ n.run.contact = .below) :
    exec (.deckAnswer now bytes) s = .next (endExchange (takeTouch lane place (eventTick now n.entry.latency age) (age == 4095)
      n.entry.station (handing now s i { n with run := { n.run with contact := .above } } .contact age value copied))) := by
  have taken := exec_judged (now := now) sole free (pad_own pad) nofun (.inr (.inr (.inr (.inr (.inl ⟨pad, rfl⟩)))))
    (fun _ => ⟨high, ready⟩) (if_pos ⟨pad, rfl⟩)
  unfold handToJudge at taken
  rw [pad, isLane, isPlace] at taken
  exact taken

end

section
variable {s : State} {lane : Lane} {place : PoolEnd} {tick start : Tick}

theorem judgeTouch_idle (idle : s.lanes[lane].state ≠ .swimming ∨ s.heat.startTick = none) :
    judgeTouch s lane place tick = .rejected .touchIdle := by
  unfold judgeTouch
  dsimp only
  cases raced : s.raceTime tick with
  | none => rfl
  | some time =>
    refine if_pos (idle.resolve_right fun none => ?_)
    unfold State.raceTime at raced
    rw [none] at raced
    exact nomatch raced

/-- The end of the pool at which a length ends (R95). -/
abbrev endOf (length : Nat) : PoolEnd := if length % 2 = 1 then .turn else .start

/-- The tests of a touch candidate of a swimming lane, in the order of table 6-3. -/
theorem judgeTouch_swimming (started : s.heat.startTick = some start) (swims : s.lanes[lane].state = .swimming)
    {time least base : Int} (isTime : time = tickDiff tick start) (isLeast : least = 1000 * s.head.minLength)
    (isBase : base = s.lanes[lane].lastTouch.getD 0) :
    (1000000 * (s.head.heatLimit : Int) < time → judgeTouch s lane place tick = .rejected .touchLimit)
    ∧ (time ≤ 1000000 * (s.head.heatLimit : Int) → time < base + least →
      judgeTouch s lane place tick = .rejected .touchLockout)
    ∧ (time ≤ 1000000 * (s.head.heatLimit : Int) → base + least ≤ time → place = endOf (s.lanes[lane].lengthCount + 1) →
      judgeTouch s lane place tick = .accepted time)
    ∧ (time ≤ 1000000 * (s.head.heatLimit : Int) → base + 2 * least ≤ time →
      place ≠ endOf (s.lanes[lane].lengthCount + 1) → s.lanes[lane].lengthCount + 2 ≤ s.head.lengths →
      judgeTouch s lane place tick = .inferred time)
    ∧ (time ≤ 1000000 * (s.head.heatLimit : Int) → base + least ≤ time → place ≠ endOf (s.lanes[lane].lengthCount + 1) →
      time < base + 2 * least ∨ s.head.lengths < s.lanes[lane].lengthCount + 2 →
      judgeTouch s lane place tick = .rejected .touchWrongEnd) := by
  have isLeast' : ((msToMicros s.head.minLength : Nat) : Int) = least := by
    unfold msToMicros
    omega
  have isLimit : ((secToMicros s.head.heatLimit : Nat) : Int) = 1000000 * (s.head.heatLimit : Int) := by
    unfold secToMicros
    omega
  have positive : 0 ≤ least := by omega
  unfold judgeTouch expectedEnd finishEnd
  dsimp only
  rw [raceTime_started started, ← isTime]
  dsimp only
  rw [isLeast', isLimit, ← isBase, if_neg (not_not_intro swims)]
  refine ⟨fun late => if_pos late, fun limit early => ?_, fun limit due at' => ?_, fun limit due away left => ?_,
    fun limit due away short => ?_⟩
  · rw [if_neg (Int.not_lt.mpr limit), if_pos early]
  · rw [if_neg (Int.not_lt.mpr limit), if_neg (Int.not_lt.mpr due), if_pos at']
  · rw [if_neg (Int.not_lt.mpr limit), if_neg (by omega), if_neg away, if_pos ⟨due, left⟩]
  · rw [if_neg (Int.not_lt.mpr limit), if_neg (Int.not_lt.mpr due), if_neg away, if_neg (by omega)]

end

/-- Settles O16: the contact step, then the tests of table 6-3 in order. -/
theorem touchIsTested : Obligations.TouchIsTested := by
  intro now bytes s i n age value lane place copied sole pad isLane isPlace free above touched candidate r least base
    expected h Rejected
  have reject (is : candidate) {e : TallyEvent}
      (judged : judgeTouch s lane place (eventTick now n.entry.latency age) = .rejected e) : Rejected e := by
    have isTouched : touched = { n with run := { n.run with contact := .above } } := by
      show ({ n with run := { n.run with contact := if above then .above else .below } } : Node) = _
      rw [if_pos is.1]
    obtain ⟨p, isP⟩ : ∃ p, p = handing now s i touched .contact age value copied := ⟨_, rfl⟩
    have isH : endExchange p = h := isP ▸ endExchange_handing now s i touched .contact age value copied
    have taken := exec_touch (now := now) sole pad isLane isPlace free is.1 is.2
    rw [← isTouched, ← isP] at taken
    have judged' : judgeTouch p lane place (eventTick now n.entry.latency age) = .rejected e := by
      rw [← judged, isP]
      unfold judgeTouch
      simp only [handing_raceTime, handing_head, handing_lanes]
    unfold takeTouch at taken
    dsimp only at taken
    rw [judged'] at taken
    exact counted_last (isP ▸ handing_free free) isH taken
  refine ⟨fun not => exec_contact_idle sole pad rfl not, fun is idle => reject is (judgeTouch_idle idle),
    fun start started is swims => ?_⟩
  intro time
  obtain ⟨tooLate, tooSoon, _, _, wrongEnd⟩ := judgeTouch_swimming (place := place) started swims
    (tick := eventTick now n.entry.latency age) rfl rfl rfl
  exact ⟨fun late => reject is (tooLate late), fun limit early => reject is (tooSoon limit early),
    fun limit due away short => reject is (wrongEnd limit due away short)⟩

end Sys2Proof.Machine
end
section
/-! The starter's items (R74 to R79, R94). -/

namespace Sys2Proof.Machine

/-! ### Changes of heat at the end of judging -/

theorem endExchange_changedWith {p w : State} (is : endExchange p = w) :
    endExchange (changedWith p (heatAnnouncement p)) = changedWith w (heatAnnouncement w) := by
  subst is
  rfl

theorem LampsCleared.endExchange {s t : State} (h : LampsCleared s t) :
    LampsCleared (Machine.endExchange s) (Machine.endExchange t) := by
  obtain ⟨patterns, since, deck, records, dark, lit, others⟩ := h
  refine ⟨patterns, since, ?_, records, dark, lit, others⟩
  unfold Machine.endExchange
  rw [State.setDeck_deck, State.setDeck_deck, deck]

theorem ChangedWithLamps.endExchange {w t : State} {telegrams : List Telegram} (h : ChangedWithLamps w t telegrams) :
    ChangedWithLamps (Machine.endExchange w) (Machine.endExchange t) telegrams :=
  ⟨h.1.endExchange, (congrArg Machine.endExchange h.2).trans rfl⟩

theorem PlacesFree.taken {n : Nat} {s : State} (free : PlacesFree n s) :
    placesTaken s.board.reserved s.board.queue + n ≤ 32 := by
  obtain ⟨unreserved, room⟩ := free
  unfold placesTaken
  rw [unreserved]
  exact room

/-- An announced change of heat ends judging. -/
theorem announced_last {c : Instr} {s p w : State} (taken : exec c s = .next (endExchange (announceHeat p)))
    (free : PlacesFree 2 p) (is : endExchange p = w) : exec c s = .next (changedWith w (heatAnnouncement w)) := by
  rw [taken, announceHeat_free free, endExchange_changedWith is]

section
variable {now : Tick} {s : State} {bytes : List Byte} {i : Fin 64} {n : Node} {code : ItemCode} {age : Nat} {value : Byte}
  {copied : Bool}

theorem handing_now : (handing now s i n code age value copied).now = now := by
  obtain ⟨t, b, is, _⟩ := handing_parts now s i n code age value copied
  rw [is]
  rfl

/-- A starter item reaches the Heat Controller. -/
theorem exec_starter (sole : SoleItem s bytes i n code age value copied) (first : IsFirst s .starter i) {k : Nat}
    (free : PlacesFree (k + copied.toNat) s) (starts : code = .marks ∨ code = .start ∨ code = .recall) :
    exec (.deckAnswer now bytes) s = .next (endExchange (handToJudge n.entry .starter code
      (eventTick now n.entry.latency age) (age == 4095) (handing now s i n code age value copied))) := by
  have kind := first.own sole.reported.node
  have real : code ≠ .generic := by rcases starts with rfl | rfl | rfl <;> exact nofun
  have notPad : code ≠ .contact := by rcases starts with rfl | rfl | rfl <;> exact nofun
  rw [← kind]
  exact exec_judged_plain sole free (starter_own sole.reported.node first) real notPad (.inr (.inr (.inl ⟨kind, starts⟩)))

end

/-! ### MARKS and RECALL (R74, R77 to R79) -/

theorem recallInMarks_eq (p : State) :
    recallInMarks p = announceHeat ((relined p).setHeat { p.heat with state := .armed }) := by
  unfold recallInMarks
  rw [initialiseLanes_eq]
  rfl

theorem recallStart_eq (p : State) : recallStart p = announceHeat (clearLamps (rearmed (p.setClock { p.clock with
    heatLimit := none, recallWindow := none, clockStep := none }))) := by
  unfold recallStart rearmed
  dsimp only
  rw [initialiseLanes_eq, clearBoosts_eq]
  rfl

/-- A RECALL lies in the recall window (R78). -/
theorem inRecallWindow_iff {s : State} {tick : Tick} : inRecallWindow s tick = true ↔
    ∃ time, (s.heat.startTick.map fun start => tickDiff tick start) = some time ∧ 0 ≤ time
      ∧ time ≤ 1000000 * (s.head.recallWindow : Int) := by
  have limit : ((secToMicros s.head.recallWindow : Nat) : Int) = 1000000 * (s.head.recallWindow : Int) := by
    unfold secToMicros
    omega
  unfold inRecallWindow State.raceTime
  rw [limit]
  cases s.heat.startTick <;> simp

section
variable {p : State} {tick : Tick} {station : Byte}

theorem takeRecall_marks (marks : p.heat.state = .marks) : takeRecall tick station p = recallInMarks p := by
  unfold takeRecall
  rw [marks]

theorem takeRecall_window (running : p.heat.state = .running) (within : inRecallWindow p tick = true) :
    takeRecall tick station p = recallStart p := by
  unfold takeRecall
  rw [running]
  exact if_pos within

theorem takeRecall_ignored (marks : p.heat.state ≠ .marks)
    (outside : ¬ (p.heat.state = .running ∧ inRecallWindow p tick = true)) :
    takeRecall tick station p = ignoreStarter station p := by
  unfold takeRecall
  split
  · next is => exact absurd is marks
  · next is => exact if_neg fun within => outside ⟨is, within⟩
  · rfl

end

/-- Settles O15: what MARKS and RECALL do by heat state, and when a starter item is ignored. -/
theorem starterItemsByHeatState : Obligations.StarterItemsByHeatState := by
  intro now bytes s i n code age value copied sole first free h ann raced inWindow
  obtain ⟨p, isP⟩ : ∃ p, p = handing now s i n code age value copied := ⟨_, rfl⟩
  have isH : endExchange p = h := isP ▸ endExchange_handing now s i n code age value copied
  have free' : PlacesFree 2 p := isP ▸ handing_free free
  have heat : p.heat = s.heat := isP ▸ handing_heat
  have head : p.head = s.head := isP ▸ handing_head
  have taken := exec_starter (now := now) sole first free
  rw [← isP] at taken
  clear_value h
  clear isP
  have window : inRecallWindow p (eventTick now n.entry.latency age) = true ↔ inWindow := by
    rw [inRecallWindow_iff, heat, head]
  refine ⟨fun is armed => ?_, fun is marks => ?_, fun is running within => ?_, fun ignored => ?_⟩
  · subst is
    have taken := taken (.inl rfl)
    unfold handToJudge takeMarks at taken
    dsimp only at taken
    rw [if_pos (by rwa [heat])] at taken
    refine announced_last taken free' ?_
    rw [← isH, ← heat]
    rfl
  · subst is
    have taken := taken (.inr (.inr rfl))
    unfold handToJudge at taken
    dsimp only at taken
    rw [takeRecall_marks (by rwa [heat]), recallInMarks_eq] at taken
    refine announced_last taken free' ?_
    rw [← isH, ← heat]
    rfl
  · subst is
    have taken := taken (.inr (.inr rfl))
    unfold handToJudge at taken
    dsimp only at taken
    obtain ⟨w, isW⟩ : ∃ w, w = rearmed (p.setClock { p.clock with heatLimit := none, recallWindow := none, clockStep := none }) :=
      ⟨_, rfl⟩
    have board : w.board = p.board := by rw [isW]; rfl
    have free2 : PlacesFree 2 w := by
      unfold PlacesFree
      rw [board]
      exact free'
    rw [takeRecall_window (by rwa [heat]) (window.mpr within), recallStart_eq, ← isW,
      announceHeat_clearLamps free2.taken] at taken
    refine ⟨_, taken, ?_⟩
    have changed := (announcedCleared_changed free2.1).endExchange
    have isW' : endExchange w = rearmed (h.setClock { h.clock with
        heatLimit := none, recallWindow := none, clockStep := none }) := by
      rw [isW, ← isH]
      rfl
    rw [← isW']
    exact changed
  · have ignores (starts : code = .marks ∨ code = .start ∨ code = .recall)
        (judged : handToJudge n.entry .starter code (eventTick now n.entry.latency age) (age == 4095) p =
          ignoreStarter n.entry.station p) :
        ∃ t, exec (.deckAnswer now bytes) s = .next t ∧ OnlyAnnounces h t
          ∧ t.tally = tallyAfter h.tally .startIgnored none (some n.entry.station) :=
      counted_last ⟨free'.1, Nat.le_trans (Nat.le_succ _) free'.2⟩ isH ((taken starts).trans (by rw [judged]; rfl))
    rcases ignored with ⟨is, notArmed⟩ | ⟨is, notArmed, notMarks⟩ | ⟨is, notMarks, outside⟩
    · subst is
      exact ignores (.inl rfl) (if_neg (by rwa [heat]))
    · subst is
      exact ignores (.inr (.inl rfl)) (if_neg (by rw [heat]; exact not_or.mpr ⟨notArmed, notMarks⟩))
    · subst is
      exact ignores (.inr (.inr rfl)) (takeRecall_ignored (by rwa [heat]) (by rwa [heat, window]))

/-! ### Boosts (R18) -/

theorem boostMarks_iff {lane : Lane} {finish : PoolEnd} {e : NodeEntry} : boostMarks lane finish e = true ↔
    (e.kind = .pad ∨ e.kind = .button) ∧ e.lane = some lane ∧ e.poolEnd = some finish := by
  unfold boostMarks
  simp [and_assoc]

theorem boostLane_boosted (lane : Lane) (s : State) : Boosted s (fun l => l = lane) (boostLane lane s).nodes := by
  intro i
  unfold boostLane
  rw [State.setNodes_nodes, mapAll_entry]
  refine ⟨fun none => by rw [none]; rfl, fun n here => ?_⟩
  rw [here, Option.map_some]
  by_cases marked : boostMarks lane (finishEnd s.head.lengths) n.entry = true
  · obtain ⟨kind, isLane, place⟩ := boostMarks_iff.mp marked
    exact ⟨true, by rw [if_pos marked], iff_of_true rfl (.inr ⟨kind, ⟨lane, rfl, isLane⟩, place⟩)⟩
  · refine ⟨n.run.boost, by rw [if_neg marked], (or_iff_left ?_).symm⟩
    rintro ⟨kind, ⟨_, rfl, isLane⟩, place⟩
    exact marked (boostMarks_iff.mpr ⟨kind, isLane, place⟩)

theorem Boosted.then {s : State} {first second : Lane → Prop} {middle last : NodeTable} (h : Boosted s first middle)
    (k : Boosted (s.setNodes middle) second last) : Boosted s (fun l => first l ∨ second l) last := by
  intro i
  obtain ⟨none, some⟩ := h i
  obtain ⟨none', some'⟩ := k i
  refine ⟨fun is => none' (none is), fun n is => ?_⟩
  obtain ⟨boost, there, iff⟩ := some n is
  obtain ⟨boost', there', iff'⟩ := some' _ there
  refine ⟨boost', there', iff'.trans ?_⟩
  have head : (s.setNodes middle).head = s.head := rfl
  dsimp only
  rw [iff, head, or_assoc]
  refine or_congr_right ?_
  rw [← and_or_left, ← or_and_right, ← exists_or]
  simp only [or_and_right]

theorem Boosted.none (s : State) {lanes : Lane → Prop} (empty : ∀ l, ¬ lanes l) : Boosted s lanes s.nodes := by
  intro i
  refine ⟨id, fun n here => ⟨n.run.boost, here, (or_iff_left ?_).symm⟩⟩
  rintro ⟨_, ⟨l, is, _⟩, _⟩
  exact empty l is

theorem Boosted.of_fields {s t : State} {lanes other : Lane → Prop} {nodes : NodeTable} (h : Boosted s lanes nodes)
    (same : t.nodes = s.nodes) (head : t.head = s.head) (iff : ∀ l, other l ↔ lanes l) : Boosted t other nodes := by
  unfold Boosted
  rw [same, head, funext fun l => propext (iff l)]
  exact h

theorem boostLanes_boosted (lanes : List Lane) (s : State) :
    ∃ nodes, lanes.foldl (fun s lane => boostLane lane s) s = s.setNodes nodes ∧ Boosted s (· ∈ lanes) nodes := by
  induction lanes generalizing s with
  | nil => exact ⟨s.nodes, rfl, .none s fun _ => List.not_mem_nil⟩
  | cons lane rest ih =>
    obtain ⟨nodes, is, boosted⟩ := ih (boostLane lane s)
    refine ⟨nodes, ?_, ?_⟩
    · rw [List.foldl_cons, is]
      exact State.setNodes_setNodes s _ nodes
    · have both : Boosted s (fun l => l = lane ∨ l ∈ rest) nodes := (boostLane_boosted lane s).then boosted
      exact both.of_fields rfl rfl fun l => List.mem_cons

/-! ### The START (R75, R94) -/

/-- A lane record at the START, by what stands in its marks release (R94). -/
theorem startRecord_cases (start : Tick) (r : LaneRecord) :
    (r.state ≠ .waiting → startRecord start r = r)
    ∧ (r.state = .waiting → r.marksRelease = none → startRecord start r = { r with state := .swimming })
    ∧ ∀ m, r.state = .waiting → r.marksRelease = some m → startRecord start r = { r with
        state := .swimming, marksRelease := none, reaction := some (tickDiff m.tick start)
        early := r.early && decide (tickDiff m.tick start < 0), late := r.late || m.late } := by
  unfold startRecord
  refine ⟨fun out => if_neg out, fun waiting none => ?_, fun m waiting some => ?_⟩
  · rw [if_pos waiting, none]
  · rw [if_pos waiting, some]

/-- The lanes at the START, and the boosts of a heat of one length. -/
theorem startLanes_boosted (start : Tick) (s : State) : ∃ nodes,
    startLanes start s = (s.setLanes (mapAll s.lanes (startRecord start))).setNodes nodes
      ∧ (s.head.lengths = 1 → Boosted s (fun lane => s.lanes[lane].state = .waiting) nodes)
      ∧ (s.head.lengths ≠ 1 → nodes = s.nodes) := by
  obtain ⟨swimming, isS⟩ : ∃ x, x = s.setLanes (mapAll s.lanes (startRecord start)) := ⟨_, rfl⟩
  have head : swimming.head = s.head := by rw [isS]; rfl
  have nodes' : swimming.nodes = s.nodes := by rw [isS]; rfl
  by_cases one : s.head.lengths = 1
  · obtain ⟨nodes, is, boosted⟩ := boostLanes_boosted (allLanes.filter fun lane => s.lanes[lane].state == .waiting) swimming
    refine ⟨nodes, ?_, fun _ => boosted.of_fields nodes'.symm head.symm fun l => ?_, fun many => absurd one many⟩
    · unfold startLanes
      dsimp only
      rw [← isS, if_pos (head ▸ one), is]
    · simp [allLanes, List.mem_filter]
  · refine ⟨s.nodes, ?_, fun is => absurd is one, fun _ => rfl⟩
    unfold startLanes
    dsimp only
    rw [← isS, if_neg (head ▸ one), isS]
    rfl

/-- Settles O14: the lanes at the START, the boosts, the race timers, and the announcement. -/
theorem startReportStartsHeat : Obligations.StartReportStartsHeat := by
  intro now bytes s i n age value copied sole first ready free h event passed
  obtain ⟨p, isP⟩ : ∃ p, p = handing now s i n .start age value copied := ⟨_, rfl⟩
  have isH : endExchange p = h := isP ▸ endExchange_handing now s i n .start age value copied
  have free' : PlacesFree 2 p := isP ▸ handing_free free
  have heat : p.heat = s.heat := isP ▸ handing_heat
  have head : p.head = s.head := isP ▸ handing_head
  have lanes : p.lanes = s.lanes := isP ▸ handing_lanes
  have here : p.now = now := isP ▸ handing_now
  have taken := exec_starter (now := now) sole first free (.inr (.inl rfl))
  rw [← isP] at taken
  clear_value h
  clear isP
  obtain ⟨nodes, started, boosted, same⟩ := startLanes_boosted event (p.setHeat ⟨.running, some event⟩)
  have head' : (p.setHeat ⟨.running, some event⟩).head = s.head := head
  have nodes' : h.nodes = p.nodes := by rw [← isH]; rfl
  have headH : h.head = p.head := by rw [← isH]; rfl
  rw [head'] at boosted same
  have record (lane : Lane) : (mapAll p.lanes (startRecord event))[lane] = startRecord event s.lanes[lane] := by
    rw [mapAll_entry, lanes]
  refine ⟨nodes, mapAll p.lanes (startRecord event), fun one => ?_, fun many => (same many).trans nodes'.symm,
    fun lane out => ?_, fun lane waiting none => ?_, fun lane m waiting some => ?_, ?_⟩
  · refine (boosted one).of_fields nodes' headH fun l => ?_
    rw [State.setHeat_lanes, lanes]
  · rw [record]
    exact (startRecord_cases event _).1 out
  · rw [record]
    exact (startRecord_cases event _).2.1 waiting none
  · rw [record]
    exact (startRecord_cases event _).2.2 m waiting some
  · intro w
    unfold handToJudge takeStart startHeat at taken
    dsimp only at taken
    rw [heat, if_pos ready, started] at taken
    have isW : endExchange (startRaceTimers event (((p.setHeat ⟨.running, Option.some event⟩).setLanes
        (mapAll (p.setHeat ⟨.running, Option.some event⟩).lanes (startRecord event))).setNodes nodes)) = w := by
      have hNow : h.now = now := by rw [← isH]; exact here
      have hHead := headH.trans head
      show _ = (((h.setNodes nodes).setLanes (mapAll p.lanes (startRecord event))).setHeat ⟨.running, Option.some event⟩).setClock
        { h.clock with
          heatLimit := Option.some ⟨event, 1000000 * s.head.heatLimit, (now - event).toNat⟩
          recallWindow := Option.some ⟨event, 1000000 * s.head.recallWindow, (now - event).toNat⟩
          clockStep := Option.some ⟨event, (now - event).toNat, 0⟩ }
      rw [← hHead, ← hNow, ← isH]
      rfl
    exact announced_last taken free' isW

end Sys2Proof.Machine
end
section
/-! The lengths of a lane record and their exchanges (R53, R97, R98, R106 to R108). -/

namespace Sys2Proof.Machine

/-! ### Lane records under announcements -/

theorem OnlyAnnounces.setLane {s t : State} (h : OnlyAnnounces s t) (lane : Lane) (r : LaneRecord) :
    OnlyAnnounces (Machine.setLane lane r s) (Machine.setLane lane r t) :=
  ⟨h.clock, h.nodes, h.filters, h.deck, h.banks, h.heat, congrArg (fun v : Vector LaneRecord 10 => v.set lane r) h.lanes,
    h.results, h.lamps, h.settings, h.loader, h.pending, h.line, h.busy, h.orders, h.notices, h.counters, h.mode⟩

theorem setLane_setLane (lane : Lane) (q r : LaneRecord) (s : State) : setLane lane r (setLane lane q s) = setLane lane r s := by
  unfold setLane
  exact congrArg s.setLanes (Vector.set_set ..)

theorem setLane_own {lane : Lane} {r : LaneRecord} {s : State} (own : s.lanes[lane] = r) : setLane lane r s = s := by
  rw [← own, setLane_same]

theorem OnlyAnnounces.head {s t : State} (h : OnlyAnnounces s t) : t.head = s.head := by
  unfold State.head State.activeBank
  rw [h.banks]

/-- A notice is raised, or not. -/
def raisedIf (b : Bool) (k : NoticeKind) (s : State) : State := if b then raise k s else s

theorem raisedIf_onlyAnnounces (b : Bool) (k : NoticeKind) (s : State) : OnlyAnnounces s (raisedIf b k s) := by
  unfold raisedIf
  split
  · exact raise_onlyAnnounces k s
  · exact .refl s

/-! ### The exchange at an exchange length (R106, R107) -/

theorem settleAwaiting_eq (r : LaneRecord) : settleAwaiting r = { r with
    exchanges := r.exchanges ++ r.awaitingRelease.toList.map fun w => ⟨w.number, none, .notJudged⟩
    awaitingRelease := none } := by
  unfold settleAwaiting
  cases waits : r.awaitingRelease with
  | none =>
    dsimp only
    rw [Option.toList_none, List.map_nil, List.append_nil, ← waits]
  | some w => rfl

/-- The exchange of a touch is judged on a release that was held, and is EARLY (R107). -/
def judgedEarly (head : HeatHead) (touch : Option (Tick × Bool)) (r : LaneRecord) : Bool :=
  match touch, r.pendingRelease with
  | some t, some release => decide (tickDiff release.tick t.1 < -(1000 * (head.exchangeMargin : Int)))
  | _, _ => false

/-- A record with the exchange of a length handled; see `lengthAdded`. -/
def exchangeAdded (head : HeatHead) (length : Nat) (touch : Option (Tick × Bool)) (r : LaneRecord) : LaneRecord :=
  let leg := head.lengths / head.legs
  let settled := r.exchanges ++ r.awaitingRelease.toList.map fun w => ⟨w.number, none, .notJudged⟩
  match touch, r.pendingRelease with
  | none, _ =>
    { r with
      exchanges := settled ++ [⟨length / leg, none, .notJudged⟩], awaitingRelease := none, pendingRelease := none }
  | some t, none => { r with exchanges := settled, awaitingRelease := some ⟨length / leg, t.1⟩ }
  | some t, some release =>
    let difference := tickDiff release.tick t.1
    { r with
      exchanges := settled ++ [⟨length / leg, some difference,
        if difference < -(1000 * (head.exchangeMargin : Int)) then .early else .good⟩]
      awaitingRelease := none, pendingRelease := none, late := r.late || release.late }

theorem margin_micros (n : Nat) : ((msToMicros n : Nat) : Int) = 1000 * (n : Int) := by
  unfold msToMicros
  omega

theorem judgeExchange_eq (lane : Lane) (number : Nat) (release touch : Tick) (late : Bool) (s : State) :
    judgeExchange lane number release touch late s =
      raisedIf (decide (tickDiff release touch < -(1000 * (s.head.exchangeMargin : Int)))) .earlyTakeoff
        (setLane lane { s.lanes[lane] with
          exchanges := s.lanes[lane].exchanges ++ [⟨number, some (tickDiff release touch),
            if tickDiff release touch < -(1000 * (s.head.exchangeMargin : Int)) then .early else .good⟩]
          late := s.lanes[lane].late || late } s) := by
  unfold judgeExchange exchangeVerdict raisedIf
  dsimp only
  rw [margin_micros]
  by_cases early : tickDiff release touch < -(1000 * (s.head.exchangeMargin : Int))
  · rw [if_pos early, if_pos rfl, if_pos (decide_eq_true early)]
  · rw [if_neg early, if_neg (by exact nofun), if_neg (by simpa using early)]

theorem handleExchange_eq {lane : Lane} {length : Nat} {touch : Option (Tick × Bool)} {s : State} {r : LaneRecord}
    (record : s.lanes[lane] = r) (lateness : ∀ t, touch = some t → (r.late || t.2) = r.late) :
    handleExchange lane length touch s = raisedIf (judgedEarly s.head touch r) .earlyTakeoff
      (setLane lane (exchangeAdded s.head length touch r) s) := by
  unfold handleExchange judgedEarly exchangeAdded legLength
  dsimp only
  rw [record, settleAwaiting_eq]
  cases touch with
  | none => rfl
  | some t =>
    dsimp only
    cases r.pendingRelease with
    | none => rfl
    | some release =>
      have late : (r.late || (release.late || t.2)) = (r.late || release.late) := by
        rw [← lateness t rfl]
        cases r.late <;> cases release.late <;> cases t.2 <;> rfl
      dsimp only
      rw [judgeExchange_eq, setLane_setLane, setLane_lane, if_pos rfl, late]
      rfl

/-! ### A length added (R97, R98) -/

/-- A record with the split of a length added, its exchange not handled yet. -/
def splitAdded (start : Tick) (length : Nat) (touch : Option (Tick × Bool)) (r : LaneRecord) : LaneRecord :=
  let time : Option Int := touch.map fun t => tickDiff t.1 start
  { r with
    splits := r.splits ++ [⟨length, time⟩], lengthCount := length
    lastTouch := if touch.isSome then time else r.lastTouch, late := r.late || (touch.map Prod.snd).getD false }

theorem isExchangeLength_iff {head : HeatHead} {n : Nat} : isExchangeLength head n = true ↔
    1 < head.legs ∧ n % (head.lengths / head.legs) = 0 ∧ n < head.lengths := by
  unfold isExchangeLength legLength
  simp [and_assoc]

theorem lengthAdded_exchange {head : HeatHead} {n : Nat} (is : isExchangeLength head n = true) (start : Tick)
    (touch : Option (Tick × Bool)) (r : LaneRecord) :
    lengthAdded head start n touch r = exchangeAdded head n touch (splitAdded start n touch r) := by
  unfold lengthAdded
  dsimp only
  rw [if_pos (isExchangeLength_iff.mp is)]
  rfl

theorem lengthAdded_plain {head : HeatHead} {n : Nat} (is : ¬ isExchangeLength head n = true) (start : Tick)
    (touch : Option (Tick × Bool)) (r : LaneRecord) : lengthAdded head start n touch r = splitAdded start n touch r := by
  unfold lengthAdded
  dsimp only
  rw [if_neg (mt isExchangeLength_iff.mpr is)]
  rfl

/-- The exchange of an exchange length, on a state that holds the record with its split. -/
theorem exchange_handled {lane : Lane} {n : Nat} {touch : Option (Tick × Bool)} {start : Tick} {r : LaneRecord} {s : State}
    (record : s.lanes[lane] = splitAdded start n touch r) :
    (if isExchangeLength s.head n = true then handleExchange lane n touch s else s) =
      raisedIf (isExchangeLength s.head n && judgedEarly s.head touch r) .earlyTakeoff
        (setLane lane (lengthAdded s.head start n touch r) s) := by
  by_cases is : isExchangeLength s.head n = true
  · rw [if_pos is, handleExchange_eq record, lengthAdded_exchange is, is, Bool.true_and]
    · rfl
    · rintro t rfl
      show ((r.late || t.2) || t.2) = (r.late || t.2)
      cases r.late <;> cases t.2 <;> rfl
  · rw [if_neg is, lengthAdded_plain is, setLane_own record, Bool.eq_false_iff.mpr is, Bool.false_and]
    rfl

/-- The state when an accepted touch has been recorded, counted and announced. -/
def touchAnnounced (lane : Lane) (n : Nat) (start tick : Tick) (late : Bool) (station : Byte) (s : State) : State :=
  let counted := count .touchAccepted (some lane) (some station)
    (setLane lane (splitAdded start n (some (tick, late)) s.lanes[lane]) s)
  offer (splitSent counted lane n (tickDiff tick start) late) counted

theorem touchAnnounced_onlyAnnounces (lane : Lane) (n : Nat) (start tick : Tick) (late : Bool) (station : Byte) (s : State) :
    OnlyAnnounces (setLane lane (splitAdded start n (some (tick, late)) s.lanes[lane]) s)
      (touchAnnounced lane n start tick late station s) :=
  (count_onlyAnnounces _ _ _ _).trans (offer_onlyAnnounces _ _)

theorem touchHandled_eq (lane : Lane) (n : Nat) (start tick : Tick) (late : Bool) (station : Byte) (s : State) :
    touchHandled lane n tick (tickDiff tick start) late station s =
      raisedIf (isExchangeLength s.head n && judgedEarly s.head (some (tick, late)) s.lanes[lane]) .earlyTakeoff
        (setLane lane (lengthAdded s.head start n (some (tick, late)) s.lanes[lane])
          (touchAnnounced lane n start tick late station s)) := by
  have announces := touchAnnounced_onlyAnnounces lane n start tick late station s
  have through : touchHandled lane n tick (tickDiff tick start) late station s =
      if isExchangeLength (touchAnnounced lane n start tick late station s).head n = true then
        handleExchange lane n (some (tick, late)) (touchAnnounced lane n start tick late station s)
      else touchAnnounced lane n start tick late station s := rfl
  have record : (touchAnnounced lane n start tick late station s).lanes[lane] =
      splitAdded start n (some (tick, late)) s.lanes[lane] := by
    rw [announces.lanes, setLane_lane, if_pos rfl]
  have head : (touchAnnounced lane n start tick late station s).head = s.head := announces.head
  rw [through, exchange_handled record, head]

/-- An accepted touch is its record, and announcements. -/
theorem touchHandled_onlyAnnounces (lane : Lane) (n : Nat) (start tick : Tick) (late : Bool) (station : Byte) (s : State) :
    OnlyAnnounces (setLane lane (lengthAdded s.head start n (some (tick, late)) s.lanes[lane]) s)
      (touchHandled lane n tick (tickDiff tick start) late station s) := by
  have announces := (touchAnnounced_onlyAnnounces lane n start tick late station s).setLane lane
    (lengthAdded s.head start n (some (tick, late)) s.lanes[lane])
  rw [setLane_setLane] at announces
  rw [touchHandled_eq]
  exact announces.trans (raisedIf_onlyAnnounces _ _ _)

/-! ### Both orders of a relay exchange (R53, R106 to R108) -/

theorem reportFinalLength_frame (lane : Lane) (n : Nat) (s : State) :
    ∃ nodes, reportFinalLength lane n s = s.setNodes nodes := by
  unfold reportFinalLength
  split
  · exact ⟨(boostLane lane s).nodes, rfl⟩
  · exact ⟨s.nodes, rfl⟩

theorem reportFinalLength_lanes (lane : Lane) (n : Nat) (s : State) : (reportFinalLength lane n s).lanes = s.lanes := by
  obtain ⟨nodes, is⟩ := reportFinalLength_frame lane n s
  rw [is, State.setNodes_lanes]

theorem reportFinalLength_orders (lane : Lane) (n : Nat) (s : State) : (reportFinalLength lane n s).orders = s.orders := by
  obtain ⟨nodes, is⟩ := reportFinalLength_frame lane n s
  rw [is, State.setNodes_orders]

theorem reportFinalLength_heat (lane : Lane) (n : Nat) (s : State) : (reportFinalLength lane n s).heat = s.heat := by
  obtain ⟨nodes, is⟩ := reportFinalLength_frame lane n s
  rw [is, State.setNodes_heat]

theorem reportFinalLength_head (lane : Lane) (n : Nat) (s : State) : (reportFinalLength lane n s).head = s.head := by
  obtain ⟨nodes, is⟩ := reportFinalLength_frame lane n s
  rw [is]
  rfl

/-- A touch at the expected end that is not the last length. -/
theorem takeTouch_appends {s : State} {lane : Lane} {start touch : Tick} {late : Bool} {station : Byte} {place : PoolEnd} {n : Nat}
    (isN : n = s.lanes[lane].lengthCount + 1) (judged : judgeTouch s lane place touch = .accepted (tickDiff touch start))
    (more : n < s.head.lengths) : takeTouch lane place touch late station s =
      reportFinalLength lane n (touchHandled lane n touch (tickDiff touch start) late station s) := by
  have head : (touchHandled lane n touch (tickDiff touch start) late station s).head = s.head :=
    (touchHandled_onlyAnnounces lane n start touch late station s).head
  unfold takeTouch
  dsimp only
  rw [judged]
  dsimp only
  rw [← isN, acceptTouch_eq, if_neg (by rw [head]; omega)]

section
variable {s : State} {lane : Lane} {start tick : Tick} {late : Bool} {station : Byte}
variable (racing : s.heat.state = .running ∨ s.heat.state = .closing) (started : s.heat.startTick = some start)
  (swims : s.lanes[lane].state = .swimming) (relay : 1 < s.head.legs) (behind : 1 ≤ s.lanes[lane].lengthCount)
  (remains : s.lanes[lane].exchanges.length + 1 < s.head.legs)
include racing started swims relay behind remains

/-- A release on a lane to which an exchange remains is an exchange release (R104). -/
theorem takeRelease_exchange : takeRelease lane tick late station s = takeExchangeRelease lane tick late station s := by
  rw [takeRelease_race racing started swims]
  unfold takeRaceRelease exchangeRemains
  dsimp only
  rw [if_neg (by omega), if_pos ⟨relay, by simpa using remains⟩]

/-- A release with no touch awaiting it is held (R108). -/
theorem takeRelease_held (unheld : s.lanes[lane].pendingRelease = none) (unawaited : s.lanes[lane].awaitingRelease = none) :
    takeRelease lane tick late station s = setLane lane { s.lanes[lane] with pendingRelease := some ⟨tick, late⟩ } s := by
  rw [takeRelease_exchange racing started swims relay behind remains]
  unfold takeExchangeRelease
  dsimp only
  rw [unawaited]
  dsimp only
  rw [unheld, if_neg (by exact nofun)]

/-- A release that a touch awaits is judged (R108). -/
theorem takeRelease_awaited {w : AwaitingRelease} (awaited : s.lanes[lane].awaitingRelease = some w) :
    takeRelease lane tick late station s = judgeExchange lane w.number tick w.tick late
      (setLane lane { s.lanes[lane] with awaitingRelease := none } s) := by
  rw [takeRelease_exchange racing started swims relay behind remains]
  unfold takeExchangeRelease
  dsimp only
  rw [awaited]

end

/-- A lane comes to an exchange length with its next touch, which the tests of table 6-3 take, and neither report of the
exchange has come. -/
structure ExchangeDue (s : State) (lane : Lane) (start touch : Tick) (r : LaneRecord) (n : Nat) : Prop where
  own : s.lanes[lane] = r
  racing : s.heat.state = .running ∨ s.heat.state = .closing
  started : s.heat.startTick = some start
  swims : r.state = .swimming
  relay : 1 < s.head.legs
  behind : 1 ≤ r.lengthCount
  next : n = r.lengthCount + 1
  even : n % 2 = 0
  whole : n % (s.head.lengths / s.head.legs) = 0
  more : n < s.head.lengths
  remains : r.exchanges.length + 1 < s.head.legs
  unheld : r.pendingRelease = none
  unawaited : r.awaitingRelease = none
  limit : tickDiff touch start ≤ 1000000 * (s.head.heatLimit : Int)
  due : r.lastTouch.getD 0 + 1000 * (s.head.minLength : Int) ≤ tickDiff touch start

/-- The record that both reports of an exchange leave (R107). -/
def exchangeJudged (head : HeatHead) (start touch release : Tick) (lateTouch lateRelease : Bool) (n : Nat) (r : LaneRecord) :
    LaneRecord :=
  { r with
    lengthCount := n, splits := r.splits ++ [⟨n, some (tickDiff touch start)⟩], lastTouch := some (tickDiff touch start)
    late := r.late || lateTouch || lateRelease
    exchanges := r.exchanges ++ [⟨n / (head.lengths / head.legs), some (tickDiff release touch),
      if tickDiff release touch < -(1000 * (head.exchangeMargin : Int)) then .early else .good⟩] }

namespace ExchangeDue

section
variable {s : State} {lane : Lane} {start touch : Tick} {r : LaneRecord} {n : Nat} {late : Bool} {station : Byte}
  (due : ExchangeDue s lane start touch r n)
include due

theorem exchange : isExchangeLength s.head n = true := isExchangeLength_iff.mpr ⟨due.relay, due.whole, due.more⟩

/-- The touch is accepted, whatever release the record holds. -/
theorem accepted (held : Option HeldRelease) : takeTouch lane .start touch late station
    (setLane lane { r with pendingRelease := held } s) = reportFinalLength lane n
      (touchHandled lane n touch (tickDiff touch start) late station (setLane lane { r with pendingRelease := held } s)) := by
  have own : (setLane lane { r with pendingRelease := held } s).lanes[lane] = { r with pendingRelease := held } := by
    rw [setLane_lane, if_pos rfl]
  obtain ⟨_, _, accepted, _⟩ := judgeTouch_swimming (s := setLane lane { r with pendingRelease := held } s) (lane := lane)
    (place := .start) (tick := touch) due.started (by rw [own]; exact due.swims) rfl rfl rfl
  rw [own] at accepted
  exact takeTouch_appends (due.next.trans (by rw [own]))
    (accepted due.limit due.due (by rw [← due.next, endOf, if_neg (by have := due.even; omega)])) due.more

/-- The release taken first is held for the touch. -/
theorem releaseFirst (release : Tick) (lateTouch lateRelease : Bool) (pad block : Byte) :
    let t := takeTouch lane .start touch lateTouch pad (takeRelease lane release lateRelease block s)
    t.lanes = s.lanes.set lane (exchangeJudged s.head start touch release lateTouch lateRelease n r)
      ∧ (tickDiff release touch < -(1000 * (s.head.exchangeMargin : Int)) → (t.notice .earlyTakeoff).status = true) := by
  have held := takeRelease_held (tick := release) (late := lateRelease) (station := block) due.racing due.started
    (by rw [due.own]; exact due.swims) due.relay (by rw [due.own]; exact due.behind) (by rw [due.own]; exact due.remains)
    (by rw [due.own]; exact due.unheld) (by rw [due.own]; exact due.unawaited)
  rw [due.own] at held
  have is := due.accepted (late := lateTouch) (station := pad) (some ⟨release, lateRelease⟩)
  rw [← held] at is
  have own : (takeRelease lane release lateRelease block s).lanes[lane] =
      { r with pendingRelease := some ⟨release, lateRelease⟩ } := by
    rw [held, setLane_lane, if_pos rfl]
  have head : (takeRelease lane release lateRelease block s).head = s.head := by rw [held]; rfl
  have again (q : LaneRecord) : setLane lane q (takeRelease lane release lateRelease block s) = setLane lane q s := by
    rw [held, setLane_setLane]
  generalize takeRelease lane release lateRelease block s = m at is own head again
  have added : lengthAdded s.head start n (some (touch, lateTouch)) { r with pendingRelease := some ⟨release, lateRelease⟩ } =
      exchangeJudged s.head start touch release lateTouch lateRelease n r := by
    rw [lengthAdded_exchange due.exchange]
    unfold exchangeAdded splitAdded exchangeJudged
    dsimp only
    rw [due.unawaited, due.unheld, Option.toList_none, List.map_nil, List.append_nil]
    rfl
  have handled := touchHandled_eq lane n start touch lateTouch pad m
  have announces := touchHandled_onlyAnnounces lane n start touch lateTouch pad m
  rw [own, head, due.exchange, Bool.true_and, added] at handled
  rw [own, head, added, again] at announces
  intro t
  have isT : t = _ := is
  clear_value t
  refine ⟨?_, fun early => ?_⟩
  · rw [isT, reportFinalLength_lanes]
    exact announces.lanes
  · rw [isT]
    unfold State.notice
    rw [reportFinalLength_orders, handled, raisedIf, if_pos (by exact decide_eq_true early)]
    exact raise_sets .earlyTakeoff _

/-- The touch taken first awaits the release. -/
theorem touchFirst (release : Tick) (lateTouch lateRelease : Bool) (pad block : Byte) :
    let t := takeRelease lane release lateRelease block (takeTouch lane .start touch lateTouch pad s)
    t.lanes = s.lanes.set lane (exchangeJudged s.head start touch release lateTouch lateRelease n r)
      ∧ (tickDiff release touch < -(1000 * (s.head.exchangeMargin : Int)) → (t.notice .earlyTakeoff).status = true) := by
  obtain ⟨awaits, isAwaits⟩ : ∃ x : LaneRecord, x = { r with
      lengthCount := n, splits := r.splits ++ [⟨n, some (tickDiff touch start)⟩], lastTouch := some (tickDiff touch start)
      late := r.late || lateTouch
      awaitingRelease := some ⟨n / (s.head.lengths / s.head.legs), touch⟩ } := ⟨_, rfl⟩
  have is := due.accepted (late := lateTouch) (station := pad) r.pendingRelease
  rw [setLane_own (r := { r with pendingRelease := r.pendingRelease }) due.own] at is
  have added : lengthAdded s.head start n (some (touch, lateTouch)) r = awaits := by
    rw [lengthAdded_exchange due.exchange, isAwaits]
    unfold exchangeAdded splitAdded
    dsimp only
    rw [due.unawaited, due.unheld, Option.toList_none, List.map_nil, List.append_nil]
    rfl
  have announces := touchHandled_onlyAnnounces lane n start touch lateTouch pad s
  rw [due.own, added] at announces
  obtain ⟨m, isM⟩ : ∃ m, m = takeTouch lane .start touch lateTouch pad s := ⟨_, rfl⟩
  have lanes : m.lanes = s.lanes.set lane awaits := by
    rw [isM, is, reportFinalLength_lanes]
    exact announces.lanes
  have heat : m.heat = s.heat := by
    rw [isM, is, reportFinalLength_heat]
    exact announces.heat
  have head : m.head = s.head := by
    rw [isM, is, reportFinalLength_head]
    exact announces.head
  have own : m.lanes[lane] = awaits := by
    rw [lanes]
    exact Vector.getElem_set_self ..
  rw [← isM]
  clear is isM announces
  have judged := takeRelease_awaited (s := m) (lane := lane) (start := start) (tick := release) (late := lateRelease)
    (station := block) (by rw [heat]; exact due.racing) (by rw [heat]; exact due.started)
    (by rw [own, isAwaits]; exact due.swims) (by rw [head]; exact due.relay)
    (by rw [own, isAwaits]; exact due.next ▸ Nat.succ_le_succ (Nat.zero_le _))
    (by rw [own, isAwaits, head]; exact due.remains)
    (w := ⟨n / (s.head.lengths / s.head.legs), touch⟩) (by rw [own, isAwaits])
  obtain ⟨taken, isTaken⟩ : ∃ x : LaneRecord, x = { awaits with awaitingRelease := none } := ⟨_, rfl⟩
  rw [own, ← isTaken] at judged
  have headJ : (setLane lane taken m).head = s.head := head
  have final : ({ taken with
      exchanges := taken.exchanges ++ [⟨n / (s.head.lengths / s.head.legs), some (tickDiff release touch),
        if tickDiff release touch < -(1000 * (s.head.exchangeMargin : Int)) then .early else .good⟩]
      late := taken.late || lateRelease } : LaneRecord) =
      exchangeJudged s.head start touch release lateTouch lateRelease n r := by
    rw [isTaken, isAwaits, ← due.unawaited]
    rfl
  rw [judgeExchange_eq, headJ, setLane_lane, if_pos rfl, final, setLane_setLane] at judged
  intro t
  have isT : t = _ := judged
  clear_value t
  refine ⟨?_, fun early => ?_⟩
  · rw [isT, (raisedIf_onlyAnnounces _ _ _).lanes, setLane, State.setLanes_lanes, lanes]
    exact Vector.set_set ..
  · rw [isT, raisedIf, if_pos (decide_eq_true early)]
    exact raise_sets .earlyTakeoff _

end

end ExchangeDue

/-- Settles O21: both orders end in one record, which `lengthAdded` gives from the release held, and the judging of the
awaited release from the touch. -/
theorem exchangeOrderIndependent : Obligations.ExchangeOrderIndependent := by
  intro s lane start touch release lateTouch lateRelease pad block r leg n time racing started swims relay behind even whole
    more remains unheld unawaited limit due releaseFirst touchFirst difference
  have exchange : ExchangeDue s lane start touch r n :=
    ⟨rfl, racing, started, swims, relay, behind, rfl, even, whole, more, remains, unheld, unawaited, limit, due⟩
  obtain ⟨lanes, early⟩ := exchange.releaseFirst release lateTouch lateRelease pad block
  obtain ⟨lanes', early'⟩ := exchange.touchFirst release lateTouch lateRelease pad block
  refine ⟨lanes.trans lanes'.symm, ?_, fun soon => ⟨early soon, early' soon⟩⟩
  have own : releaseFirst.lanes[lane] = exchangeJudged s.head start touch release lateTouch lateRelease n r := by
    rw [lanes]
    exact Vector.getElem_set_self ..
  exact own

end Sys2Proof.Machine
end
section
/-! Accepted touches: the split, its exchange and its telegrams (R97 to R99, R106, R107, R133). -/

namespace Sys2Proof.Machine

/-! ### SPLITs on a roomy board queue (R133, R134) -/

/-- A board queue without the SPLITs of a lane. -/
def splitless (lane : Lane) (queue : List Telegram) : List Telegram :=
  queue.filter fun q => !isSplitOf (some (byteOf lane.val)) q

theorem splitless_length (lane : Lane) (queue : List Telegram) : (splitless lane queue).length ≤ queue.length :=
  List.length_filter_le _ _

/-- A SPLIT takes the place of an earlier one of its lane. -/
theorem splitless_split {lane : Lane} {queue : List Telegram} {t : Telegram} (split : isSplitOf (some (byteOf lane.val)) t = true) :
    splitless lane (splitless lane queue ++ [t]) = splitless lane queue := by
  unfold splitless
  have none : ([t].filter fun q => !isSplitOf (some (byteOf lane.val)) q) = [] :=
    List.filter_cons_of_neg (by rw [split]; decide)
  rw [List.filter_append, List.filter_filter, none, List.append_nil]
  simp only [Bool.and_self]

theorem splitless_notices {lane : Lane} {queue notices : List Telegram} (kind : ∀ t ∈ notices, t.kind ≠ kindSplit) :
    splitless lane (queue ++ notices) = splitless lane queue ++ notices := by
  have all : notices.filter (fun q => !isSplitOf (some (byteOf lane.val)) q) = notices :=
    List.filter_eq_self.mpr fun t mem => by simp [isSplitOf, kind t mem]
  unfold splitless
  rw [List.filter_append, all]

theorem offer_split {lane : Lane} {t : Telegram} {s : State} (split : isSplitOf (some (byteOf lane.val)) t = true)
    (unreserved : s.board.reserved = false) (room : (splitless lane s.board.queue).length < 32) :
    offer t s = s.setBoard { s.board with queue := splitless lane s.board.queue ++ [t] } := by
  obtain ⟨kind, head⟩ : t.kind = kindSplit ∧ t.payload.head? = some (byteOf lane.val) := by
    simpa [isSplitOf] using split
  have coalesced : coalesce t s.board.queue = splitless lane s.board.queue := by
    rw [coalesce_eq, if_pos kind, head]
    rfl
  have taken : placesTaken s.board.reserved (splitless lane s.board.queue) < 32 := by
    rw [unreserved]
    exact room
  have inserted : insertBoard s.board.reserved t s.board.queue = some (splitless lane s.board.queue ++ [t]) := by
    unfold insertBoard
    rw [coalesced, makeRoom_free taken]
    rfl
  unfold offer offerAt offerWith
  rw [inserted]

theorem splitTelegram_isSplit (s : State) (lane : Lane) (n : Nat) (time : Option Int) (late : Bool) :
    isSplitOf (some (byteOf lane.val)) (splitTelegram s lane n time late) = true :=
  (Bool.and_eq_true ..).mpr ⟨rfl, beq_iff_eq.mpr rfl⟩

theorem noticeSent_kind {s : State} {k : NoticeKind} {number : Byte} {t : Telegram} (mem : t ∈ noticeSent s k number) :
    t.kind ≠ kindSplit := by
  unfold noticeSent at mem
  dsimp only at mem
  split at mem
  · rw [List.mem_singleton.mp mem]
    exact fun h => nomatch (h : kindNotice = kindSplit)
  · exact nomatch mem

/-- With a place free, an event counted adds at most the NOTICE of TALLY_OVERFLOW. -/
theorem count_roomy {s : State} (free : PlacesFree 1 s) (e : TallyEvent) (lane : Option Lane) (station : Option Byte) :
    ∃ notices, notices.length ≤ 1 ∧ (∀ t ∈ notices, t.kind ≠ kindSplit)
      ∧ (tallyAlarms s.tally e lane station = false → notices = [])
      ∧ (count e lane station s).board = { s.board with queue := s.board.queue ++ notices } := by
  unfold count countWith
  dsimp only
  cases tallyAlarms s.tally e lane station with
  | true =>
    have raised := raise_free (k := .tallyOverflow) (s := s.setTally (tallyAfter s.tally e lane station)) (placesFree_one free)
    exact ⟨_, noticeSent_length _ .tallyOverflow _, fun _ => noticeSent_kind, nofun, congrArg State.board raised⟩
  | false => exact ⟨[], Nat.zero_le _, nofun, fun _ => rfl, by rw [List.append_nil]; rfl⟩

section
variable {x : State} {lane : Lane} {n : Nat} {start tick : Tick} {late : Bool} {station : Byte}

/-- An accepted touch counted and announced on a board queue with places free. -/
theorem touchAnnounced_roomy (free : PlacesFree 1 x) (room : (splitless lane x.board.queue).length + 2 ≤ 32) :
    (touchAnnounced lane n start tick late station x).tally = tallyAfter x.tally .touchAccepted (some lane) (some station)
    ∧ ∃ notices, notices.length ≤ 1
      ∧ (tallyAlarms x.tally .touchAccepted (some lane) (some station) = false → notices = [])
      ∧ (touchAnnounced lane n start tick late station x).board = { x.board with
        queue := splitless lane x.board.queue ++ notices ++ [splitSent x lane n (tickDiff tick start) late] } := by
  obtain ⟨w, isW⟩ : ∃ w, w = setLane lane (splitAdded start n (some (tick, late)) x.lanes[lane]) x := ⟨_, rfl⟩
  have freeW : PlacesFree 1 w := by rw [isW]; exact free
  have boardW : w.board = x.board := by rw [isW]; rfl
  have tallyW : w.tally = x.tally := by rw [isW]; rfl
  have settingsW : w.settings = x.settings := by rw [isW]; rfl
  obtain ⟨notices, short, kind, quiet, board⟩ := count_roomy freeW .touchAccepted (some lane) (some station)
  have tally := count_tally_free freeW .touchAccepted (some lane) (some station)
  have settings := (count_onlyAnnounces .touchAccepted (some lane) (some station) w).settings
  unfold touchAnnounced
  rw [← isW]
  dsimp only
  generalize count .touchAccepted (some lane) (some station) w = c at board tally settings
  rw [boardW] at board
  rw [tallyW] at tally quiet
  have sent : splitSent c lane n (tickDiff tick start) late = splitSent x lane n (tickDiff tick start) late := by
    unfold splitSent boardSent
    rw [settings, settingsW]
  have rest : splitless lane c.board.queue = splitless lane x.board.queue ++ notices := by
    rw [board]
    exact splitless_notices kind
  have offered := offer_split (s := c) (splitTelegram_isSplit c lane n (some (tickDiff tick start)) late)
    (by rw [board]; exact free.1) (by rw [rest, List.length_append]; omega)
  rw [splitTelegram_eq, rest, sent, board] at offered
  rw [sent, offered]
  exact ⟨tally, notices, short, quiet, rfl⟩

theorem touchAnnounced_spares {j : NoticeKind} (unforced : Unforced j) :
    (touchAnnounced lane n start tick late station x).notice j = x.notice j :=
  (offer_spares unforced _ _).trans (count_spares unforced _ _ _ _)

end

section
variable {now : Tick} {s : State} {i : Fin 64} {n : Node} {code : ItemCode} {age : Nat} {value : Byte} {copied : Bool}

@[simp] theorem handing_settings : (handing now s i n code age value copied).settings = s.settings := by
  obtain ⟨t, b, is, _⟩ := handing_parts now s i n code age value copied
  rw [is]
  rfl

@[simp] theorem handing_notice (k : NoticeKind) : (handing now s i n code age value copied).notice k = s.notice k := by
  obtain ⟨t, b, is, _⟩ := handing_parts now s i n code age value copied
  rw [is]
  rfl

theorem handing_rest : (handing now s i n code age value copied).results = s.results
    ∧ (handing now s i n code age value copied).filters = s.filters
    ∧ (handing now s i n code age value copied).loader = s.loader := by
  obtain ⟨t, b, is, _⟩ := handing_parts now s i n code age value copied
  rw [is]
  exact ⟨rfl, rfl, rfl⟩

end

/-! ### Inferred lengths (R98) -/

theorem splitAdded_inferred (start : Tick) (n : Nat) (r : LaneRecord) : splitAdded start n none r =
    { r with splits := r.splits ++ [⟨n, none⟩], lengthCount := n } := by
  unfold splitAdded
  dsimp only
  rw [show (Option.map Prod.snd (none : Option (Tick × Bool))).getD false = false from rfl, Bool.or_false]
  rfl

/-- The state when an inferred length has been recorded and announced. -/
def inferredAnnounced (lane : Lane) (n : Nat) (start : Tick) (s : State) : State :=
  let recorded := setLane lane (splitAdded start n none s.lanes[lane]) s
  offer (splitTelegram recorded lane n none false) recorded

theorem inferLength_announced (lane : Lane) (n : Nat) (start : Tick) (s : State) : inferLength lane n s =
    reportFinalLength lane n (setLane lane (lengthAdded s.head start n none s.lanes[lane])
      (inferredAnnounced lane n start s)) := by
  have announces : OnlyAnnounces (setLane lane (splitAdded start n none s.lanes[lane]) s) (inferredAnnounced lane n start s) :=
    offer_onlyAnnounces _ _
  have recorded : lengthRecorded lane n none s.lanes[lane].lastTouch s.lanes[lane].late s =
      setLane lane (splitAdded start n none s.lanes[lane]) s := by
    rw [splitAdded_inferred]
    rfl
  have through : inferLength lane n s = reportFinalLength lane n
      (if isExchangeLength (inferredAnnounced lane n start s).head n = true then
        handleExchange lane n none (inferredAnnounced lane n start s) else inferredAnnounced lane n start s) := by
    rw [inferLength_eq]
    dsimp only
    rw [recorded]
    rfl
  have record : (inferredAnnounced lane n start s).lanes[lane] = splitAdded start n none s.lanes[lane] := by
    rw [announces.lanes, setLane_lane, if_pos rfl]
  have head : (inferredAnnounced lane n start s).head = s.head := announces.head
  have quiet : (isExchangeLength s.head n && judgedEarly s.head none s.lanes[lane]) = false := Bool.and_false _
  rw [through, exchange_handled record, head, quiet]
  rfl

/-- An inferred length announced on a board queue with places free. -/
theorem inferredAnnounced_roomy {lane : Lane} {n : Nat} {start : Tick} {s : State} (unreserved : s.board.reserved = false)
    (room : (splitless lane s.board.queue).length < 32) :
    ∃ t, isSplitOf (some (byteOf lane.val)) t = true ∧ inferredAnnounced lane n start s =
      setLane lane (splitAdded start n none s.lanes[lane])
        (s.setBoard { s.board with queue := splitless lane s.board.queue ++ [t] }) :=
  ⟨_, splitTelegram_isSplit _ lane n none false,
    offer_split (s := setLane lane (splitAdded start n none s.lanes[lane]) s) (splitTelegram_isSplit _ lane n none false)
      unreserved room⟩

/-- The final-length report of a lane boosts it or leaves the node table (R99). -/
theorem reportFinalLength_boosts (lane : Lane) (n : Nat) (s : State) :
    ∃ nodes, reportFinalLength lane n s = s.setNodes nodes
      ∧ (n + 1 = s.head.lengths → Boosted s (fun l => l = lane) nodes) ∧ (n + 1 ≠ s.head.lengths → nodes = s.nodes) := by
  unfold reportFinalLength
  by_cases last : n + 1 = s.head.lengths
  · exact ⟨(boostLane lane s).nodes, if_pos last, fun _ => boostLane_boosted lane s, (absurd last ·)⟩
  · exact ⟨s.nodes, if_neg last, (absurd · last), fun _ => rfl⟩

/-! ### A touch that does not finish its lane (R97, R99, R106, R107) -/

theorem lengthAdded_exchanges_plain {head : HeatHead} {n : Nat} {start : Tick} {touch : Option (Tick × Bool)} {r : LaneRecord}
    (is : ¬ isExchangeLength head n = true) : (lengthAdded head start n touch r).exchanges = r.exchanges := by
  rw [lengthAdded_plain is]
  rfl

/-- An exchange has been judged EARLY exactly when one was added and the last is EARLY (R107). -/
theorem lengthAdded_early {head : HeatHead} {n : Nat} {start tick : Tick} {late : Bool} {r : LaneRecord} :
    ((lengthAdded head start n (some (tick, late)) r).exchanges.length ≠ r.exchanges.length
      ∧ ∃ x, (lengthAdded head start n (some (tick, late)) r).exchanges.getLast? = some x ∧ x.verdict = .early) ↔
      (isExchangeLength head n && judgedEarly head (some (tick, late)) r) = true := by
  by_cases is : isExchangeLength head n = true
  · rw [lengthAdded_exchange is, is, Bool.true_and]
    unfold exchangeAdded judgedEarly splitAdded
    dsimp only
    cases r.pendingRelease with
    | none => cases r.awaitingRelease <;> simp
    | some release => by_cases early : tickDiff release.tick tick < -(1000 * (head.exchangeMargin : Int)) <;> simp [early]
  · rw [lengthAdded_exchanges_plain is, Bool.eq_false_iff.mpr is, Bool.false_and]
    simp

/-- What stands before a touch is taken on the length that follows the record `before`: that record in place of the lane's,
else at most a SPLIT of the lane more than in `p`. -/
structure ReadyFor (p : State) (lane : Lane) (before : LaneRecord) (x : State) : Prop where
  frame : OnlyAnnounces (setLane lane before p) x
  tally : x.tally = p.tally
  orders : x.orders = p.orders
  free : PlacesFree 2 x
  rest : splitless lane x.board.queue = splitless lane p.board.queue

theorem ReadyFor.here {p : State} (free : PlacesFree 3 p) (lane : Lane) : ReadyFor p lane p.lanes[lane] p where
  frame := by
    rw [setLane_same]
    exact .refl p
  tally := rfl
  orders := rfl
  free := ⟨free.1, Nat.le_trans (Nat.le_succ _) free.2⟩
  rest := rfl

theorem ReadyFor.inferred {p : State} (free : PlacesFree 3 p) {lane : Lane} {n : Nat} (start : Tick)
    (more : n + 1 ≠ p.head.lengths) :
    ReadyFor p lane (lengthAdded p.head start n none p.lanes[lane]) (inferLength lane n p) := by
  have room : p.board.queue.length + 3 ≤ 32 := free.2
  have short := splitless_length lane p.board.queue
  obtain ⟨t, split, announced⟩ := inferredAnnounced_roomy (n := n) (start := start) free.1
    (show (splitless lane p.board.queue).length < 32 by omega)
  have is : inferLength lane n p = setLane lane (lengthAdded p.head start n none p.lanes[lane])
      (p.setBoard { p.board with queue := splitless lane p.board.queue ++ [t] }) := by
    rw [inferLength_announced lane n start, announced, setLane_setLane]
    exact if_neg more
  rw [is]
  exact ⟨OnlyAnnounces.setLane (onlyAnnounces_queue p _ p.board.reserved) lane _, rfl, rfl, ⟨free.1, by
    show (splitless lane p.board.queue ++ [t]).length + 2 ≤ 32
    rw [List.length_append, List.length_singleton]
    omega⟩, splitless_split split⟩

/-- A touch accepted behind a record, on a board queue with places free. -/
theorem touchHandled_ready {p x : State} {lane : Lane} {before record : LaneRecord} {n : Nat} {start tick : Tick} {late : Bool}
    {station : Byte} (ready : ReadyFor p lane before x) (free : PlacesFree 3 p)
    (isRecord : record = lengthAdded p.head start n (some (tick, late)) before) :
    let y := touchHandled lane n tick (tickDiff tick start) late station x
    let early := record.exchanges.length ≠ before.exchanges.length
      ∧ ∃ x, record.exchanges.getLast? = some x ∧ x.verdict = .early
    OnlyAnnounces (setLane lane record p) y
      ∧ y.tally = tallyAfter p.tally .touchAccepted (some lane) (some station)
      ∧ ∃ queue, (early → (y.notice .earlyTakeoff).status = true
          ∧ y.board.queue = queue ++ [splitSent p lane n (tickDiff tick start) late] ++ noticeSent p .earlyTakeoff 4)
        ∧ (¬ early → (y.notice .earlyTakeoff).status = (p.notice .earlyTakeoff).status
          ∧ y.board.queue = queue ++ [splitSent p lane n (tickDiff tick start) late]) := by
  have record' : x.lanes[lane] = before := by rw [ready.frame.lanes, setLane_lane, if_pos rfl]
  have head : x.head = p.head := ready.frame.head
  have settings : x.settings = p.settings := ready.frame.settings
  have one : PlacesFree 1 x := ⟨ready.free.1, Nat.le_trans (Nat.le_succ _) ready.free.2⟩
  have room : p.board.queue.length + 3 ≤ 32 := free.2
  have short := splitless_length lane p.board.queue
  have few : (splitless lane x.board.queue).length + 3 ≤ 32 := by
    rw [ready.rest]
    omega
  obtain ⟨tally, notices, shortN, _, board⟩ := touchAnnounced_roomy (x := x) (lane := lane) (n := n) (start := start) (tick := tick) (late := late)
    (station := station) one (by omega)
  have spared := touchAnnounced_spares (x := x) (lane := lane) (n := n) (start := start) (tick := tick) (late := late)
    (station := station) (by decide : NoticeKind.earlyTakeoff ≠ .overrun ∧ NoticeKind.earlyTakeoff ≠ .tallyOverflow)
  have announces := touchHandled_onlyAnnounces lane n start tick late station x
  have settingsA := (touchAnnounced_onlyAnnounces lane n start tick late station x).settings
  have handled := touchHandled_eq lane n start tick late station x
  have sent : splitSent x lane n (tickDiff tick start) late = splitSent p lane n (tickDiff tick start) late := by
    unfold splitSent boardSent
    rw [settings]
  have notice : x.notice .earlyTakeoff = p.notice .earlyTakeoff := by
    unfold State.notice
    rw [ready.orders]
  rw [head, record', ← isRecord] at handled announces
  have framed : OnlyAnnounces (setLane lane record p) (setLane lane record x) := by
    have := ready.frame.setLane lane record
    rwa [setLane_setLane] at this
  intro y early
  have isEarly : early ↔ (isExchangeLength p.head n && judgedEarly p.head (some (tick, late)) before) = true := by
    show (record.exchanges.length ≠ before.exchanges.length
      ∧ ∃ x, record.exchanges.getLast? = some x ∧ x.verdict = .early) ↔ _
    rw [isRecord]
    exact lengthAdded_early
  generalize touchAnnounced lane n start tick late station x = a at handled board tally spared settingsA
  have settingsA' : a.settings = p.settings := settingsA.trans settings
  have roomA : placesTaken a.board.reserved a.board.queue < 32 := by
    rw [board]
    unfold placesTaken
    dsimp only
    rw [one.1, List.length_append, List.length_append, List.length_singleton, if_neg Bool.false_ne_true]
    omega
  have isY : y = raisedIf (isExchangeLength p.head n && judgedEarly p.head (some (tick, late)) before) .earlyTakeoff
      (setLane lane record a) := handled
  clear_value y
  refine ⟨framed.trans ?_, ?_, splitless lane x.board.queue ++ notices, fun is => ?_, fun not => ?_⟩
  · rw [isY, ← handled]
    exact announces
  · rw [isY, ← ready.tally, ← tally]
    unfold raisedIf
    split
    · rw [raise_free (s := setLane lane record a) roomA]
      rfl
    · rfl
  · rw [isEarly.mp is, raisedIf, if_pos rfl] at isY
    refine ⟨isY ▸ raise_sets .earlyTakeoff _, ?_⟩
    have noticed : noticeSent (setLane lane record a) .earlyTakeoff 4 = noticeSent p .earlyTakeoff 4 := by
      unfold noticeSent boardSent
      rw [show (setLane lane record a).notice .earlyTakeoff = a.notice .earlyTakeoff from rfl, spared, notice,
        show (setLane lane record a).settings = a.settings from rfl, settingsA']
    rw [isY, raise_free (s := setLane lane record a) roomA, ← sent]
    exact congrArg_both (· ++ ·) (congrArg BoardTransmitter.queue board) noticed
  · rw [Bool.eq_false_iff.mpr (mt isEarly.mpr not), raisedIf, if_neg Bool.false_ne_true] at isY
    rw [isY, ← notice, ← spared, ← sent]
    exact ⟨rfl, congrArg BoardTransmitter.queue board⟩

/-- Settles O17: the touch behind the lane's own record, or behind the record of the inferred length. -/
theorem touchAppendsSplit : Obligations.TouchAppendsSplit := by
  intro now bytes s i n age value lane place start copied sole pad isLane isPlace free high sharp started swims touched h r late
    event time least base expected Accepted limit due
  obtain ⟨p, isP⟩ : ∃ p, p = handing now s i touched .contact age value copied := ⟨_, rfl⟩
  have isH : endExchange p = h := isP ▸ endExchange_handing now s i touched .contact age value copied
  have free' : PlacesFree 3 p := isP ▸ handing_free free
  have head : p.head = s.head := isP ▸ handing_head
  have heat : p.heat = s.heat := isP ▸ handing_heat
  have lanes : p.lanes = s.lanes := isP ▸ handing_lanes
  have settings : p.settings = s.settings := isP ▸ handing_settings
  have notice (k : NoticeKind) : p.notice k = s.notice k := isP ▸ handing_notice k
  have taken := exec_touch (now := now) sole pad isLane isPlace free high sharp
  have own : p.lanes[lane] = r := by rw [lanes]
  obtain ⟨_, _, accepted, inferred, _⟩ := judgeTouch_swimming (s := p) (lane := lane) (place := place) (tick := event)
    (by rwa [heat]) (by rwa [own]) rfl rfl rfl
  rw [own, head] at accepted inferred
  rw [show handing now s i { n with run := { n.run with contact := .above } } .contact age value copied = p from isP.symm] at taken
  clear_value h
  clear isP
  have accepts {before : LaneRecord} {length : Nat} {x : State} (ready : ReadyFor p lane before x)
      (more : length < s.head.lengths) (is : exec (.deckAnswer now bytes) s =
        .next (endExchange (acceptTouch lane length event time late n.entry.station x))) : Accepted before length := by
    obtain ⟨announces, tally, queue, whenEarly, whenNot⟩ := touchHandled_ready (start := start) (tick := event) (n := length)
      (late := late) (station := n.entry.station) ready free' (congrArg (fun hd => lengthAdded hd start length (some (event, late)) before) head.symm)
    replace is : exec (.deckAnswer now bytes) s =
        .next (endExchange (acceptTouch lane length event (tickDiff event start) late n.entry.station x)) := is
    rw [acceptTouch_eq] at is
    generalize touchHandled lane length event (tickDiff event start) late n.entry.station x = y at *
    have headY : y.head = s.head := announces.head.trans head
    obtain ⟨nodes, reported, boosted, same⟩ := reportFinalLength_boosts lane length y
    have nodesY : y.nodes = h.nodes := by
      rw [announces.nodes, ← isH]
      rfl
    have headH : h.head = s.head := by
      rw [← isH]
      exact head
    have sent : splitSent p lane length (tickDiff event start) late = splitSent s lane length time late := by
      unfold splitSent boardSent
      rw [settings]
    have noticed : noticeSent p .earlyTakeoff 4 = noticeSent s .earlyTakeoff 4 := by
      unfold noticeSent boardSent
      rw [settings, notice]
    rw [sent, noticed] at whenEarly
    rw [sent, notice] at whenNot
    rw [headY] at boosted same
    refine ⟨endExchange (y.setNodes nodes), nodes, queue, ?_, fun last => ?_, fun notLast => (same notLast).trans nodesY, ?_, ?_,
      whenEarly, whenNot⟩
    · rw [is, if_neg (by rw [headY]; omega), reported]
    · exact (boosted last).of_fields nodesY.symm (headH.trans headY.symm) fun _ => Iff.rfl
    · have ended := (announces.setNodes nodes).endExchange
      rw [← isH]
      exact ended
    · rw [← isH]
      exact tally
  unfold takeTouch at taken
  dsimp only at taken
  refine ⟨fun at' more => accepts (own ▸ ReadyFor.here free' lane) more ?_, fun away due' more => ?_⟩
  · rw [accepted limit due at', own] at taken
    exact taken
  · rw [inferred limit due' away (Nat.le_of_lt more), own] at taken
    have ready := ReadyFor.inferred free' (lane := lane) (n := r.lengthCount + 1) start (by rw [head]; omega)
    rw [own, head] at ready
    exact accepts ready more taken

end Sys2Proof.Machine
end
section
/-! The touch that finishes its lane (R80, R83, R98, R100, R116, R118, R127). -/

namespace Sys2Proof.Machine

/-! ### The finish of a lane (R100, R116, R80) -/

/-- A record that finishes at a race time (R100). -/
def finishedRecord (time : Int) (r : LaneRecord) : LaneRecord :=
  { r with
    state := .finished, padFinish := some time
    exchanges := r.exchanges ++ r.awaitingRelease.toList.map fun w => ⟨w.number, none, .notJudged⟩
    awaitingRelease := none, pendingRelease := none }

theorem finishLane_eq {y : State} {lane : Lane} {last : LaneRecord} (own : y.lanes[lane] = last) (time : Int) :
    finishLane lane time y = testEndOfSwimming (placeProvisionally (some lane)
      (setLane lane (finishedRecord time last) (boostLane lane y))) := by
  unfold finishLane
  rw [own, settleAwaiting_eq]
  rfl

theorem heatAnnouncement_closing {p y : State} {now : Tick} (banks : y.banks = p.banks) (settings : y.settings = p.settings)
    (notice : y.notice .heatChange = p.notice .heatChange) :
    heatAnnouncement (closing now y) = heatAnnouncement (closing now p) := by
  have noticeY (z : State) : (closing now z).notice .heatChange = z.notice .heatChange := rfl
  have settingsY (z : State) : (closing now z).settings = z.settings := rfl
  have banksY (z : State) : (closing now z).activeBank = z.activeBank := rfl
  have bank : y.activeBank = p.activeBank := by
    unfold State.activeBank
    rw [banks]
  have state (z : State) : (closing now z).heat.state = .closing := rfl
  unfold heatAnnouncement heatSent noticeSent boardSent
  rw [noticeY, noticeY, settingsY, settingsY, banksY, banksY, state, state, notice, settings, bank]

/-- Lanes once each, one of ten left out. -/
theorem others_length {lanes : List Lane} (once : lanes.Nodup) (lane : Lane) :
    (lanes.filter fun o => some o != some lane).length ≤ 9 := by
  have away : lane ∉ lanes.filter fun o => some o != some lane := by simp
  have all := length_le_of_subset (whole := allLanes) (List.nodup_cons.mpr ⟨away, once.filter _⟩)
    fun lane _ => List.mem_finRange lane
  rw [allLanes, List.length_finRange, List.length_cons] at all
  omega

theorem placesMoved_nodup {s t : State} (once : t.results.order.Nodup) : (placesMoved s t).Nodup := by
  refine (List.nodup_append.mpr ⟨once, (List.nodup_finRange 10).filter _, fun a mem b other => ?_⟩).filter _
  rintro rfl
  have away := (List.mem_filter.mp other).2
  simp [mem] at away

theorem placesMoved_congr {y s e t : State} (places : ∀ o : Lane, y.lanes[o].place = s.lanes[o].place)
    (lanes : t.lanes = e.lanes) (results : t.results = e.results) : placesMoved s t = placesMoved y e := by
  unfold placesMoved
  rw [lanes, results]
  exact List.filter_congr fun o _ => by rw [places]

/-- A finished lane placed anew, and the entry into CLOSING when swimming is done. -/
theorem finished_placed {b t : State} {lane : Lane} {r : LaneRecord} (place : r.place = b.lanes[lane].place)
    (is : t = testEndOfSwimming (placeProvisionally (some lane) (setLane lane r b))) {ends : Prop}
    (decides : ends ↔ b.heat.state = .running
      ∧ ∀ l : Lane, t.lanes[l].state = .vacant ∨ t.lanes[l].state = .finished ∨ t.lanes[l].dq = true) :
    PlacedAnew b lane r t ∧ t.results.revision = b.results.revision
      ∧ (ends → t.heat = { b.heat with state := .closing } ∧ t.clock = (closing b.now b).clock)
      ∧ (¬ ends → t.heat = b.heat ∧ t.clock = b.clock)
      ∧ (placesTaken b.board.reserved b.board.queue + 12 ≤ 32 → ∃ changed,
        t.board.queue = b.board.queue ++ [finishSent t lane]
            ++ ((placesMoved b t).filter fun o => some o != some lane).map (placeSent t) ++ changed
          ∧ (ends → changed = heatAnnouncement (closing b.now b)) ∧ (¬ ends → changed = [])) := by
  obtain ⟨e, isE⟩ : ∃ e, e = placeProvisionally (some lane) (setLane lane r b) := ⟨_, rfl⟩
  have tested : t = if (true = true) then testEndOfSwimming e else e := by rw [if_pos rfl, is, isE]
  clear is
  obtain ⟨placed, heat, clock, revision, telegrams⟩ := placeProvisionally_placed place isE
  clear isE
  have lanesT := (testEndOfSwimming_placed placed heat clock tested Iff.rfl).2.1
  have decides' : ends ↔ true = true ∧ b.heat.state = .running
      ∧ ∀ l : Lane, e.lanes[l].state = .vacant ∨ e.lanes[l].state = .finished ∨ e.lanes[l].dq = true := by
    rw [← lanesT, decides]
    exact (and_iff_right rfl).symm
  obtain ⟨placedT, _, resultsT, closes, stays, queue⟩ := testEndOfSwimming_placed placed heat clock tested decides'
  have once : t.results.order.Nodup := placedT.placed.2.2.1
  have moved : placesMoved b e = placesMoved b t := (placesMoved_congr (fun _ => rfl) lanesT resultsT).symm
  have settingsT : t.settings = e.settings := placedT.settings.trans placed.settings.symm
  have finishes : finishSent e = finishSent t := (finishSent_of lanesT settingsT).symm
  have places : placeSent e = placeSent t := (placeSent_of lanesT settingsT).symm
  refine ⟨placedT, (congrArg ResultUnit.revision resultsT).trans revision, closes, stays, fun room => ?_⟩
  obtain ⟨orders, board⟩ := telegrams (Nat.le_of_succ_le room)
  have few := others_length (placesMoved_nodup (s := b) once) lane
  rw [moved, finishes, places, Option.toList_some, List.map_singleton] at board
  obtain ⟨changed, queueT, closed, open'⟩ := queue orders (by
    rw [board]
    unfold placesTaken at room ⊢
    simp only [List.length_append, List.length_map, List.length_singleton]
    omega)
  exact ⟨changed, queueT.trans (by rw [board]), closed, open'⟩

/-! ### What stands before the last touch (R97, R98) -/

/-- What stands before the touch of the last length, taken behind the record `before`: that record in place of the lane's,
its finish end boosted or not yet, else at most a SPLIT of the lane more than in `p`. -/
structure LastReady (p : State) (lane : Lane) (before : LaneRecord) (x : State) : Prop where
  frame : ∃ nodes lanes, Boosted p lanes nodes ∧ (∀ l, lanes l → l = lane)
    ∧ OnlyAnnounces ((setLane lane before p).setNodes nodes) x
  roomy : PlacesFree 14 p → x.tally = p.tally ∧ x.orders = p.orders ∧ PlacesFree 13 x
    ∧ splitless lane x.board.queue = splitless lane p.board.queue

theorem LastReady.here (p : State) (lane : Lane) : LastReady p lane p.lanes[lane] p where
  frame := ⟨p.nodes, fun _ => False, .none p fun _ => id, fun _ => False.elim, by
    rw [setLane_same]
    exact .refl p⟩
  roomy free := ⟨rfl, rfl, ⟨free.1, Nat.le_trans (Nat.le_succ _) free.2⟩, rfl⟩

theorem LastReady.inferred (p : State) (lane : Lane) (n : Nat) (start : Tick) :
    LastReady p lane (lengthAdded p.head start n none p.lanes[lane]) (inferLength lane n p) := by
  have announces : OnlyAnnounces (setLane lane (splitAdded start n none p.lanes[lane]) p) (inferredAnnounced lane n start p) :=
    offer_onlyAnnounces _ _
  have framed := announces.setLane lane (lengthAdded p.head start n none p.lanes[lane])
  rw [setLane_setLane] at framed
  have roomy : PlacesFree 14 p → ∃ t, isSplitOf (some (byteOf lane.val)) t = true ∧ inferredAnnounced lane n start p =
      setLane lane (splitAdded start n none p.lanes[lane])
        (p.setBoard { p.board with queue := splitless lane p.board.queue ++ [t] }) := fun free => by
    have room : p.board.queue.length + 14 ≤ 32 := free.2
    have short := splitless_length lane p.board.queue
    exact inferredAnnounced_roomy free.1 (by omega)
  rw [inferLength_announced lane n start]
  obtain ⟨nodes, reported, boosted, same⟩ := reportFinalLength_boosts lane n
    (setLane lane (lengthAdded p.head start n none p.lanes[lane]) (inferredAnnounced lane n start p))
  rw [reported]
  constructor
  case frame =>
    refine ⟨nodes, fun l => l = lane ∧ n + 1 = p.head.lengths, ?_, fun l is => is.1, framed.setNodes nodes⟩
    by_cases last : n + 1 = p.head.lengths
    · exact (boosted (by rw [framed.head]; exact last)).of_fields framed.nodes.symm framed.head.symm
        fun l => and_iff_left last
    · rw [(same (by rw [framed.head]; exact last)).trans framed.nodes]
      exact .none p fun l both => last both.2
  case roomy =>
    intro free
    have room : p.board.queue.length + 14 ≤ 32 := free.2
    have short := splitless_length lane p.board.queue
    obtain ⟨t, split, is⟩ := roomy free
    rw [is]
    refine ⟨rfl, rfl, ⟨free.1, ?_⟩, splitless_split split⟩
    show (splitless lane p.board.queue ++ [t]).length + 13 ≤ 32
    rw [List.length_append, List.length_singleton]
    omega

/-- The touch of the last length recorded, counted and announced. -/
theorem touchHandled_last {p x : State} {lane : Lane} {before last : LaneRecord} {n : Nat} {start tick : Tick} {late : Bool}
    {station : Byte} (ready : LastReady p lane before x) (isN : n = p.head.lengths)
    (isLast : last = lengthAdded p.head start n (some (tick, late)) before) :
    let y := touchHandled lane n tick (tickDiff tick start) late station x
    (∃ nodes, Boosted p (fun l => l = lane) nodes
      ∧ OnlyAnnounces ((setLane lane last p).setNodes nodes) (boostLane lane y))
      ∧ (PlacesFree 14 p → y.board.reserved = false ∧ y.board.queue.length ≤ 20
        ∧ y.notice .heatChange = p.notice .heatChange
        ∧ ∃ queue, y.board.queue = queue ++ [splitSent p lane n (tickDiff tick start) late]
          ∧ (tallyAlarms p.tally .touchAccepted (some lane) (some station) = false →
            queue = splitless lane p.board.queue)) := by
  obtain ⟨⟨nodes, lanes, boosted, only, frame⟩, roomy⟩ := ready
  have head : x.head = p.head := frame.head
  have settings : x.settings = p.settings := frame.settings
  have own : x.lanes[lane] = before := by
    rw [frame.lanes]
    exact setLane_lane_self lane before p
  have announces := touchHandled_onlyAnnounces lane n start tick late station x
  have handled := touchHandled_eq lane n start tick late station x
  have notExchange : isExchangeLength p.head n = false := by
    rw [Bool.eq_false_iff, Ne, isExchangeLength_iff]
    omega
  rw [head, own, ← isLast] at announces handled
  rw [notExchange, Bool.false_and] at handled
  have framed : OnlyAnnounces ((setLane lane last p).setNodes nodes) (setLane lane last x) := by
    have := frame.setLane lane last
    rwa [show setLane lane last ((setLane lane before p).setNodes nodes) =
      (setLane lane last (setLane lane before p)).setNodes nodes from rfl, setLane_setLane] at this
  intro y
  have whole : OnlyAnnounces ((setLane lane last p).setNodes nodes) y := framed.trans announces
  have isY : y = setLane lane last (touchAnnounced lane n start tick late station x) := handled
  clear_value y
  constructor
  · refine ⟨(boostLane lane y).nodes, ?_, whole.setNodes _⟩
    have again : Boosted (p.setNodes nodes) (fun l => l = lane) (boostLane lane y).nodes :=
      (boostLane_boosted lane y).of_fields whole.nodes.symm whole.head.symm fun _ => Iff.rfl
    exact (boosted.then again).of_fields rfl rfl fun l => (or_iff_right_of_imp (only l)).symm
  · intro free
    obtain ⟨tallyX, ordersX, freeX, rest⟩ := roomy free
    have room : p.board.queue.length + 14 ≤ 32 := free.2
    have short := splitless_length lane p.board.queue
    obtain ⟨_, notices, shortN, quiet, board⟩ := touchAnnounced_roomy (x := x) (lane := lane) (n := n) (start := start)
      (tick := tick) (late := late) (station := station) ⟨freeX.1, Nat.le_trans (Nat.add_le_add_left (by omega) _) freeX.2⟩
      (by rw [rest]; omega)
    have spared := touchAnnounced_spares (x := x) (lane := lane) (n := n) (start := start) (tick := tick) (late := late)
      (station := station) (by decide : NoticeKind.heatChange ≠ .overrun ∧ NoticeKind.heatChange ≠ .tallyOverflow)
    have sent : splitSent x lane n (tickDiff tick start) late = splitSent p lane n (tickDiff tick start) late := by
      unfold splitSent boardSent
      rw [settings]
    generalize touchAnnounced lane n start tick late station x = a at *
    have boardY : y.board = a.board := by rw [isY]; rfl
    have noticeY : y.notice .heatChange = a.notice .heatChange := by rw [isY]; rfl
    rw [tallyX] at quiet
    rw [rest, sent] at board
    rw [boardY, noticeY, spared, board]
    refine ⟨freeX.1, ?_, ?_, splitless lane p.board.queue ++ notices, rfl, fun still => ?_⟩
    · dsimp only
      rw [List.length_append, List.length_append, List.length_singleton]
      omega
    · unfold State.notice
      rw [ordersX]
    · rw [quiet still, List.append_nil]

/-! ### The finish (R80, R83, R98, R100, R116, R118, R127) -/

theorem placingTime_open {h : HeatState} (notClosed : h ≠ .closed) (r : LaneRecord) :
    placingTime h r = placingTime .running r := by
  unfold placingTime
  rw [if_neg notClosed, if_neg (by decide : ¬ HeatState.running = .closed)]

/-- The placing is the same in RUNNING and in CLOSING (table 7-1). -/
theorem Placed.running {h : HeatState} {lanes : Vector LaneRecord 10} {order : List Lane} (placed : Placed h lanes order)
    (notClosed : h ≠ .closed) : Placed .running lanes order := by
  have times : placingTime h = placingTime .running := funext (placingTime_open notClosed)
  have parts : TakesPart h = TakesPart .running := by
    funext r time
    rw [eq_iff_iff, takesPart_iff, takesPart_iff, times]
  unfold Placed at placed ⊢
  rwa [times, parts] at placed

theorem lengthAdded_place (head : HeatHead) (start : Tick) (n : Nat) (touch : Option (Tick × Bool)) (r : LaneRecord) :
    (lengthAdded head start n touch r).place = r.place := by
  unfold lengthAdded
  dsimp only
  split
  · split <;> rfl
  · rfl

/-- The finish of a lane taken on a state `b`: what stood in `p`, with the record of the last length and the boosts of the
lane. -/
structure AtFinish (p : State) (lane : Lane) (last : LaneRecord) (nodes : NodeTable) (b : State) : Prop where
  boosted : Boosted p (fun l => l = lane) nodes
  frame : OnlyAnnounces ((setLane lane last p).setNodes nodes) b

theorem recordOf_frame {p y : State} {lane : Lane} {last : LaneRecord} {nodes boosted : NodeTable}
    (frame : OnlyAnnounces ((setLane lane last p).setNodes nodes) (y.setNodes boosted)) : y.lanes[lane] = last := by
  have lanes : y.lanes = (setLane lane last p).lanes := frame.lanes
  rw [lanes, setLane_lane, if_pos rfl]

theorem headOf_frame {p y : State} {lane : Lane} {last : LaneRecord} {nodes boosted : NodeTable}
    (frame : OnlyAnnounces ((setLane lane last p).setNodes nodes) (y.setNodes boosted)) : y.head = p.head := by
  have banks : y.banks = p.banks := frame.banks
  unfold State.head State.activeBank
  rw [banks]

/-- The touch of the last length finishes its lane. -/
theorem acceptTouch_last {p x : State} {lane : Lane} {before last : LaneRecord} {n : Nat} {start tick : Tick}
    {late : Bool} {station : Byte} (ready : LastReady p lane before x) (isN : n = p.head.lengths)
    (isLast : last = lengthAdded p.head start n (some (tick, late)) before) :
    ∃ b nodes, AtFinish p lane last nodes b
      ∧ acceptTouch lane n tick (tickDiff tick start) late station x = testEndOfSwimming (placeProvisionally (some lane)
        (setLane lane (finishedRecord (tickDiff tick start) last) b))
      ∧ (PlacesFree 14 p → b.board.reserved = false ∧ b.board.queue.length ≤ 20
        ∧ b.notice .heatChange = p.notice .heatChange
        ∧ ∃ queue, b.board.queue = queue ++ [splitSent p lane n (tickDiff tick start) late]
          ∧ (tallyAlarms p.tally .touchAccepted (some lane) (some station) = false →
            queue = splitless lane p.board.queue)) := by
  have handled := touchHandled_last (tick := tick) (station := station) ready isN isLast
  dsimp only at handled
  have accepted := acceptTouch_eq lane n tick (tickDiff tick start) late station x
  generalize touchHandled lane n tick (tickDiff tick start) late station x = y at handled accepted
  obtain ⟨⟨nodes, boosted, frame⟩, roomy⟩ := handled
  have isB : ∃ other, boostLane lane y = y.setNodes other := ⟨_, rfl⟩
  generalize bIs : boostLane lane y = b at frame isB
  obtain ⟨other, rfl⟩ := isB
  rw [if_pos (by rw [headOf_frame frame]; exact isN), finishLane_eq (recordOf_frame frame), bIs] at accepted
  exact ⟨_, nodes, ⟨boosted, frame⟩, accepted, roomy⟩

section
variable {p b t : State} {lane : Lane} {last : LaneRecord} {nodes : NodeTable} {time : Int}
variable (at' : AtFinish p lane last nodes b) (place : last.place = p.lanes[lane].place)
  (is : t = testEndOfSwimming (placeProvisionally (some lane) (setLane lane (finishedRecord time last) b)))
include at'

theorem AtFinish.record (o : Lane) : b.lanes[o] = if lane = o then last else p.lanes[o] := by
  have lanes : b.lanes = (setLane lane last p).lanes := at'.frame.lanes
  rw [lanes, setLane_lane]

include place

theorem AtFinish.placeOf (o : Lane) : b.lanes[o].place = p.lanes[o].place := by
  rw [at'.record]
  split
  · next same => rw [← same]; exact place
  · rfl

include is

/-- What the finish leaves of the state before. -/
theorem AtFinish.placed : PlacedAnew b lane (finishedRecord time last) t ∧ t.results.revision = p.results.revision := by
  obtain ⟨placed, revision, _⟩ := finished_placed (r := finishedRecord time last)
    (place.trans (at'.placeOf place lane).symm) is Iff.rfl
  exact ⟨placed, revision.trans (congrArg ResultUnit.revision at'.frame.results)⟩

/-- The entry into CLOSING at a finish, and the telegrams. -/
theorem AtFinish.course {closes : Prop} (decides : closes ↔ p.heat.state = .running
      ∧ ∀ l : Lane, t.lanes[l].state = .vacant ∨ t.lanes[l].state = .finished ∨ t.lanes[l].dq = true) :
    (closes → t.heat = { p.heat with state := .closing } ∧ t.clock = (closing p.now p).clock)
      ∧ (¬ closes → t.heat = p.heat ∧ t.clock = p.clock)
      ∧ (placesTaken b.board.reserved b.board.queue + 12 ≤ 32 → b.notice .heatChange = p.notice .heatChange → ∃ changed,
          t.board.queue = b.board.queue ++ [finishSent t lane]
            ++ ((placesMoved p t).filter fun l => l ≠ lane).map (placeSent t) ++ changed
          ∧ (closes → changed = heatAnnouncement (closing p.now p)) ∧ (¬ closes → changed = [])) := by
  have frame := at'.frame
  have heat : b.heat = p.heat := frame.heat
  have clock : b.clock = p.clock := frame.clock
  have now : b.now = p.now := congrArg RaceClock.tick clock
  obtain ⟨_, _, closed, stays, queue⟩ := finished_placed (r := finishedRecord time last) (ends := closes)
    (place.trans (at'.placeOf place lane).symm) is (by rw [heat]; exact decides)
  have clockClosing : (closing b.now b).clock = (closing p.now p).clock := by
    rw [now]
    exact closing_clock clock frame.banks
  rw [heat, clockClosing] at closed
  rw [heat, clock] at stays
  refine ⟨closed, stays, fun room notice => ?_⟩
  have moved : (placesMoved b t).filter (fun o => some o != some lane) = (placesMoved p t).filter fun l => l ≠ lane := by
    rw [← placesMoved_congr (s := p) (y := b) (at'.placeOf place) rfl rfl]
    exact List.filter_congr fun o _ => (Bool.eq_iff_iff.mpr (by simp))
  have announced : heatAnnouncement (closing b.now b) = heatAnnouncement (closing p.now p) := by
    rw [now]
    exact heatAnnouncement_closing frame.banks frame.settings notice
  obtain ⟨changed, queueT, whenClosed, whenNot⟩ := queue room
  rw [announced] at whenClosed
  rw [moved] at queueT
  exact ⟨changed, queueT, whenClosed, whenNot⟩

end

/-- Settles O18: the touch behind the lane's own record, or behind the record of the inferred length, is the last; the
exchange then ends. -/
theorem finishPlacesLane : Obligations.FinishPlacesLane := by
  intro now bytes s i n age value lane place start copied sole pad isLane isPlace high free sharp started racing swims h r late
    event time least base at' limit before which last
  obtain ⟨p, isP⟩ : ∃ p, p = handing now s i { n with run := { n.run with contact := .above } } .contact age value copied :=
    ⟨_, rfl⟩
  have isH : endExchange p = h := isP ▸ endExchange_handing now s i _ .contact age value copied
  have head : p.head = s.head := isP ▸ handing_head
  have heat : p.heat = s.heat := isP ▸ handing_heat
  have lanes : p.lanes = s.lanes := isP ▸ handing_lanes
  have settings : p.settings = s.settings := isP ▸ handing_settings
  have banks : p.banks = s.banks := isP ▸ handing_banks
  have here : p.now = now := isP ▸ handing_now
  obtain ⟨results, filters, loader⟩ : p.results = s.results ∧ p.filters = s.filters ∧ p.loader = s.loader :=
    isP ▸ handing_rest
  have freeP : PlacesFree (14 + copied.toNat) s → PlacesFree 14 p := fun free => isP ▸ handing_free free
  have taken := exec_touch (now := now) (k := 0) sole pad isLane isPlace (by rwa [Nat.zero_add]) high sharp
  rw [← isP] at taken
  clear_value h
  clear isP
  have own : p.lanes[lane] = r := by rw [lanes]
  obtain ⟨_, _, accepted, inferred, _⟩ := judgeTouch_swimming (s := p) (lane := lane) (place := place) (tick := event)
    (by rwa [heat]) (by rwa [own]) rfl rfl rfl
  rw [own, head] at accepted inferred
  obtain ⟨x, ready, placeX, taken⟩ : ∃ x, LastReady p lane before x ∧ before.place = p.lanes[lane].place
      ∧ exec (.deckAnswer now bytes) s =
        .next (endExchange (acceptTouch lane s.head.lengths event (tickDiff event start) late n.entry.station x)) := by
    unfold takeTouch at taken
    dsimp only at taken
    rcases which with ⟨final, due, is⟩ | ⟨final, due, is⟩
    · refine ⟨p, by rw [is, ← own]; exact .here p lane, by rw [is, own], ?_⟩
      rw [accepted limit due (by rw [final]; exact at'), own, final] at taken
      exact taken
    · have away : place ≠ endOf (r.lengthCount + 1) := by
        rw [at', ← final]
        unfold endOf
        split <;> split <;> first | omega | decide
      refine ⟨inferLength lane (r.lengthCount + 1) p, ?_, by rw [is, lengthAdded_place, own], ?_⟩
      · have inferredReady := LastReady.inferred p lane (r.lengthCount + 1) start
        rwa [own, head, ← is] at inferredReady
      · rw [inferred limit due away (Nat.le_of_eq final), own] at taken
        dsimp only at taken
        rw [final] at taken
        exact taken
  obtain ⟨b, nodes, finish, isT, roomy⟩ := acceptTouch_last (last := last) (tick := event) (late := late)
    (station := n.entry.station) ready (congrArg HeatHead.lengths head.symm) (by rw [head])
  have placeL : last.place = p.lanes[lane].place := (lengthAdded_place ..).trans placeX
  generalize acceptTouch lane s.head.lengths event (tickDiff event start) late n.entry.station x = t at taken isT
  obtain ⟨placed, revision⟩ := finish.placed placeL isT
  have frame := finish.frame
  have notClosed : b.heat.state ≠ .closed := by
    have state : b.heat = s.heat := frame.heat.trans heat
    rw [state]
    rcases racing with racing | racing <;> rw [racing] <;> exact nofun
  refine ⟨endExchange t, taken, placed.own, fun other away => ?_, placed.placed.running notClosed,
    revision.trans (congrArg ResultUnit.revision results), placed.lamps, ?_, ?_, placed.filters.trans (frame.filters.trans filters),
    placed.banks.trans (frame.banks.trans banks), placed.settings.trans (frame.settings.trans settings),
    placed.loader.trans (frame.loader.trans loader), ?_⟩
  · have moved := placed.others other away
    rw [finish.record, if_neg (Ne.symm away), lanes] at moved
    exact moved
  · have nodesT : t.nodes = nodes := placed.nodes.trans frame.nodes
    have boosted := finish.boosted
    rw [← nodesT] at boosted
    exact boosted.of_fields (by rw [← isH]; rfl) (by rw [← isH]; rfl) fun _ => Iff.rfl
  · intro closes
    obtain ⟨closed, stays, telegrams⟩ := finish.course placeL isT (closes := closes) (by rw [heat]; exact Iff.rfl)
    have startedP : ({ p.heat with state := .closing } : HeatController) = ⟨.closing, some start⟩ := by
      rw [heat]
      exact congrArg (HeatController.mk .closing) started
    have closingH : (closing p.now p).clock = (closing now h).clock := by
      rw [here, ← isH]
      rfl
    have announcedH : heatAnnouncement (closing p.now p) = heatAnnouncement (closing now h) := by
      rw [here, ← isH]
      rfl
    rw [startedP, closingH] at closed
    rw [announcedH] at telegrams
    refine ⟨closed, fun not => ⟨(stays not).1.trans heat, (stays not).2.trans (by rw [← isH]; rfl)⟩, fun places => ?_⟩
    obtain ⟨unreserved, short, notice, queue, queueB, quiet⟩ := roomy (freeP places)
    obtain ⟨changed, is, whenClosed, whenNot⟩ := telegrams (by
      unfold placesTaken
      rw [unreserved, if_neg Bool.false_ne_true]
      omega) notice
    refine ⟨queue, changed, ?_, whenClosed, whenNot, fun still => ?_⟩
    · have sent : splitSent p lane s.head.lengths (tickDiff event start) late =
          splitSent s lane s.head.lengths (tickDiff event start) late := by
        unfold splitSent boardSent
        rw [settings]
      have moved : placesMoved p t = placesMoved s t := by
        unfold placesMoved
        rw [lanes]
      rw [queueB, sent, moved, List.append_assoc queue] at is
      exact is
    · rw [← isH] at still ⊢
      exact quiet still
  · rw [← isH]
    have orders := placed.orders
    rw [frame.orders] at orders
    exact orders

end Sys2Proof.Machine
end
section
/-! The poll schedule: normal and priority visits, and empty rounds (R7, R12 to R17). -/

namespace Sys2Proof.Machine

/-! ### What decides on an entry's visits (R14 to R17) -/

section
variable {s : State} {i : Fin 64} {n : Node}

theorem effectiveKind_first {kind : NodeKind} (special : kind = .starter ∨ kind = .panel) (here : s.nodes[i] = some n) :
    effectiveKind s.nodes i n = kind ↔ IsFirst s kind i := by
  constructor
  · intro is
    have own : ¬ CountsAsOther s i n := by
      rw [← effectiveKind_other, is]
      rcases special with rfl | rfl <;> exact nofun
    have kindN : n.entry.kind = kind := (effectiveKind_own own).symm.trans is
    refine Classical.byContradiction fun notFirst => ?_
    exact own (.inr ⟨by rw [kindN]; exact special, by rw [kindN]; exact notFirst⟩)
  · intro first
    have kindN := first.own here
    refine (effectiveKind_own ?_).trans kindN
    rintro (other | ⟨_, notFirst⟩)
    · rw [kindN] at other
      rcases special with is | is <;> exact nomatch is.symm.trans other
    · exact notFirst (by rw [kindN]; exact first)

theorem responseQueued_iff : responseQueued s = true ↔ ∃ e ∈ s.deck.queue, e.origin = .response := by
  unfold responseQueued
  simp

theorem panelWaits_iff (here : s.nodes[i] = some n) : panelWaits s i n = true ↔ PanelWaiting s i := by
  unfold panelWaits PanelWaiting
  rw [Bool.and_eq_true, responseQueued_iff, beq_iff_eq, effectiveKind_first (.inr rfl) here]

theorem resting_iff (here : s.nodes[i] = some n) : Resting s i ↔ n.run.presence = .absent ∧ n.run.restCount < 15 := by
  unfold Resting
  rw [here]
  simp

theorem normalStep_empty (here : s.nodes[i] = none) : normalStep s i = .skip := by
  unfold normalStep
  rw [here]

theorem normalStep_loaded (here : s.nodes[i] = some n) : normalStep s i =
    if panelWaits s i n = true then .skip
    else if n.run.presence = .absent ∧ n.run.restCount < Config.restLimit then .rest else .visit := by
  unfold normalStep
  rw [here]

theorem normalStep_rest : normalStep s i = .rest ↔ Resting s i ∧ ¬ PanelWaiting s i := by
  cases here : s.nodes[i] with
  | none =>
    rw [normalStep_empty here]
    unfold Resting
    rw [here]
    simp
  | some n =>
    rw [normalStep_loaded here, resting_iff here, ← panelWaits_iff here]
    by_cases waits : panelWaits s i n = true
    · simp [waits]
    · rw [if_neg waits]
      by_cases rests : n.run.presence = .absent ∧ n.run.restCount < Config.restLimit
      · rw [if_pos rests]
        exact iff_of_true rfl ⟨rests, waits⟩
      · rw [if_neg rests]
        exact iff_of_false nofun fun both => rests both.1

theorem normalStep_visit : normalStep s i = .visit ↔ ¬ PassedOver s i := by
  unfold PassedOver
  cases here : s.nodes[i] with
  | none =>
    rw [normalStep_empty here]
    simp
  | some n =>
    rw [normalStep_loaded here, resting_iff here, ← panelWaits_iff here]
    by_cases waits : panelWaits s i n = true
    · simp [waits]
    · rw [if_neg waits]
      by_cases rests : n.run.presence = .absent ∧ n.run.restCount < Config.restLimit
      · rw [if_pos rests]
        exact iff_of_false nofun fun none => none (.inr (.inr rests))
      · rw [if_neg rests]
        refine iff_of_true rfl ?_
        rintro (empty | waits' | rests')
        · exact nomatch empty
        · exact waits waits'
        · exact rests rests'

end

/-- What decides on the visit of an entry: the entries and the queue. -/
theorem normalStep_congr {x y : State} (entries : SameEntries x.nodes y.nodes) (queue : x.deck.queue = y.deck.queue) {i : Fin 64}
    (here : x.nodes[i] = y.nodes[i]) : normalStep x i = normalStep y i := by
  have waits (n : Node) : panelWaits x i n = panelWaits y i n := by
    unfold panelWaits responseQueued
    rw [effectiveKind_entries entries i (rfl : n.entry = n.entry), queue]
  cases there : y.nodes[i] with
  | none => rw [normalStep_empty there, normalStep_empty (here.trans there)]
  | some n => rw [normalStep_loaded there, normalStep_loaded (here.trans there), waits]

theorem passedOver_congr {x y : State} (nodes : x.nodes = y.nodes) (queue : x.deck.queue = y.deck.queue) :
    PassedOver x = PassedOver y := by
  unfold PassedOver PanelWaiting Resting IsFirst
  rw [nodes, queue]

theorem passedEntry_congr {x y : State} (nodes : x.nodes = y.nodes) (queue : x.deck.queue = y.deck.queue) :
    PassedEntry x = PassedEntry y := by
  unfold PassedEntry PanelWaiting Resting IsFirst
  rw [nodes, queue]

/-! ### Entries that the normal pointer passes (R12, R14, R17) -/

/-- A node whose rest count has incremented. -/
def rested (n : Node) : Node := { n with run := { n.run with restCount := n.run.restCount + 1 } }

/-- The entry at an index when the normal pointer has passed it. -/
def passEntry (s : State) (i : Fin 64) : Option Node :=
  if normalStep s i = .rest then s.nodes[i].map rested else s.nodes[i]

theorem passedEntry_iff {s : State} {i : Fin 64} {after : Option Node} : PassedEntry s i after ↔ after = passEntry s i := by
  unfold PassedEntry passEntry
  by_cases rests : Resting s i ∧ ¬ PanelWaiting s i
  · rw [if_pos (normalStep_rest.mpr rests)]
    obtain ⟨⟨n, here, low⟩, free⟩ := rests
    rw [here]
    constructor
    · exact fun both => both.2 n rfl ⟨n, here, low⟩ free
    · rintro rfl
      refine ⟨fun either => (either.elim (absurd ⟨n, here, low⟩ ·) (absurd · free)), fun m is _ _ => ?_⟩
      cases is
      rfl
  · rw [if_neg (mt normalStep_rest.mp rests)]
    constructor
    · exact fun both => both.1 ((Classical.em (PanelWaiting s i)).elim .inr fun free => .inl fun resting => rests ⟨resting, free⟩)
    · rintro rfl
      exact ⟨fun _ => rfl, fun n _ resting free => absurd ⟨resting, free⟩ rests⟩

theorem passEntry_congr {x y : State} (entries : SameEntries x.nodes y.nodes) (queue : x.deck.queue = y.deck.queue) {i : Fin 64}
    (here : x.nodes[i] = y.nodes[i]) : passEntry x i = passEntry y i := by
  unfold passEntry
  rw [normalStep_congr entries queue here, here]

theorem passEntry_entry (s : State) (i : Fin 64) : (passEntry s i).map Node.entry = s.nodes[i].map Node.entry := by
  unfold passEntry
  split
  · cases s.nodes[i] <;> rfl
  · rfl

/-- The node table when the normal pointer has passed the indices given. -/
@[irreducible] def passNodes (s : State) (passed : List (Fin 64)) : NodeTable :=
  Vector.ofFn fun j => if j ∈ passed then passEntry s j else s.nodes[j]

theorem passNodes_entry (s : State) (passed : List (Fin 64)) (j : Fin 64) :
    (passNodes s passed)[j] = if j ∈ passed then passEntry s j else s.nodes[j] := by
  unfold passNodes
  rw [Fin.getElem_fin, Vector.getElem_ofFn]

theorem passNodes_entries (s : State) (passed : List (Fin 64)) : SameEntries (passNodes s passed) s.nodes := by
  intro j
  rw [passNodes_entry]
  split
  · exact passEntry_entry s j
  · rfl

theorem nodeTable_ext {x y : NodeTable} (same : ∀ j : Fin 64, x[j] = y[j]) : x = y :=
  Vector.ext fun j within => same ⟨j, within⟩

/-- The state when the normal pointer has passed the indices given, and stands where it then does. -/
def passedTo (s : State) (passed : List (Fin 64)) (pointer : Fin 64) : State :=
  (s.setNodes (passNodes s passed)).setDeck { s.deck with normalPointer := pointer }

theorem passedTo_away {s : State} {passed : List (Fin 64)} {j : Fin 64} (away : j ∉ passed) (pointer : Fin 64) :
    (passedTo s passed pointer).nodes[j] = s.nodes[j] ∧ normalStep (passedTo s passed pointer) j = normalStep s j
      ∧ passEntry (passedTo s passed pointer) j = passEntry s j := by
  have same : (passedTo s passed pointer).nodes[j] = s.nodes[j] := (passNodes_entry s passed j).trans (if_neg away)
  have entries : SameEntries (passedTo s passed pointer).nodes s.nodes := passNodes_entries s passed
  have queue : (passedTo s passed pointer).deck.queue = s.deck.queue := rfl
  exact ⟨same, normalStep_congr entries queue same, passEntry_congr entries queue same⟩

theorem passedTo_none (s : State) : passedTo s [] s.deck.normalPointer = s := by
  have same : passNodes s [] = s.nodes := nodeTable_ext fun j => by rw [passNodes_entry, if_neg List.not_mem_nil]
  unfold passedTo
  rw [same]
  rfl

theorem passedTo_then {s : State} {i : Fin 64} {rest : List (Fin 64)} (fresh : i ∉ rest) (p q : Fin 64) :
    passedTo (passedTo s [i] p) rest q = passedTo s (i :: rest) q := by
  have nodes : passNodes (passedTo s [i] p) rest = passNodes s (i :: rest) := by
    refine nodeTable_ext fun j => ?_
    have first : (passedTo s [i] p).nodes[j] = if j ∈ [i] then passEntry s j else s.nodes[j] := passNodes_entry s [i] j
    rw [passNodes_entry, passNodes_entry]
    by_cases mem : j ∈ rest
    · have other : j ≠ i := fun is => fresh (is ▸ mem)
      rw [if_pos mem, if_pos (List.mem_cons_of_mem i mem), (passedTo_away (by simpa using other) p).2.2]
    · rw [if_neg mem, first]
      by_cases is : j = i
      · rw [if_pos (by simp [is]), if_pos (by simp [is])]
      · rw [if_neg (by simpa using is), if_neg (by simp [is, mem])]
  unfold passedTo at nodes ⊢
  rw [nodes]
  rfl

/-- The normal pointer passes an entry. -/
theorem walkNormal_pass {s : State} {i : Fin 64} (passed : PassedOver s i) (rest : List (Fin 64)) :
    walkNormal (i :: rest) s = walkNormal rest (passedTo s [i] (i + 1)) := by
  have nodes (j : Fin 64) := passNodes_entry s [i] j
  have notVisit : normalStep s i ≠ .visit := fun is => normalStep_visit.mp is passed
  rw [walkNormal]
  cases step : normalStep s i with
  | skip =>
    have same : passNodes s [i] = s.nodes := nodeTable_ext fun j => by
      rw [nodes]
      split
      · next mem =>
        rw [List.mem_singleton.mp mem, passEntry, if_neg (by rw [step]; exact nofun)]
      · rfl
    unfold passedTo
    rw [same]
    rfl
  | rest =>
    have same : passNodes s [i] = modifyAt s.nodes i (Option.map rested) := nodeTable_ext fun j => by
      rw [nodes, Fin.getElem_fin (modifyAt ..), modifyAt_getElem]
      by_cases is : j = i
      · rw [if_pos (by simp [is]), if_pos (by rw [is]), passEntry, is, if_pos step]
        rfl
      · rw [if_neg (by simpa using is), if_neg fun same => is (Fin.ext same.symm)]
        rfl
    unfold passedTo
    rw [same]
    rfl
  | visit => exact absurd step notVisit

/-- The normal pointer passes a run of entries. -/
theorem walkNormal_passes {passed : List (Fin 64)} {s : State} (once : passed.Nodup) (each : ∀ j ∈ passed, PassedOver s j)
    (rest : List (Fin 64)) : ∃ pointer, walkNormal (passed ++ rest) s = walkNormal rest (passedTo s passed pointer) := by
  induction passed generalizing s with
  | nil => exact ⟨_, by rw [passedTo_none]; rfl⟩
  | cons i more ih =>
    obtain ⟨fresh, once'⟩ := List.nodup_cons.mp once
    have still (j : Fin 64) (mem : j ∈ more) : PassedOver (passedTo s [i] (i + 1)) j := by
      have other : j ≠ i := fun is => fresh (is ▸ mem)
      refine Classical.byContradiction fun stands => ?_
      rw [← normalStep_visit, (passedTo_away (by simpa using other) _).2.1, normalStep_visit] at stands
      exact stands (each j (List.mem_cons_of_mem i mem))
    obtain ⟨pointer, walked⟩ := ih once' still
    refine ⟨pointer, ?_⟩
    rw [List.cons_append, walkNormal_pass (each i List.mem_cons_self), walked, passedTo_then fresh]

/-! ### Visits (R12 to R14) -/

/-- A node as its normal visit leaves it: an ABSENT one rests anew (R14). -/
def visitedNode (n : Node) : Node :=
  if n.run.presence = .absent then { n with run := { n.run with restCount := 0 } } else n

theorem visitedNode_entry (n : Node) : (visitedNode n).entry = n.entry := by
  unfold visitedNode
  split <;> rfl

theorem walkNormal_visit {s : State} {i : Fin 64} {n : Node} (here : s.nodes[i] = some n) (stands : ¬ PassedOver s i)
    (rest : List (Fin 64)) : walkNormal (i :: rest) s =
      ((s.setNodes (s.nodes.set i (some (visitedNode n)))).setDeck { s.deck with normalPointer := i + 1 }, some i) := by
  rw [walkNormal, normalStep_visit.mpr stands]
  dsimp only
  rw [here]
  dsimp only
  unfold visitedNode
  split
  · have set : modifyAt s.nodes i (Option.map fun n => { n with run := { n.run with restCount := 0 } }) =
        s.nodes.set i (some { n with run := { n.run with restCount := 0 } }) := by
      unfold modifyAt
      rw [here]
      rfl
    unfold setRest
    rw [show (passIndex i s).nodes = s.nodes from rfl, set]
    rfl
  · have same : s.nodes.set i (some n) = s.nodes := by
      rw [← here]
      exact Vector.set_getElem_self _
    rw [same]
    rfl

/-- The visit of the first entry from `first` on that is not passed over, on the node table of `r`. -/
structure Visits (r : State) (first i : Fin 64) (n : Node) (nodes : NodeTable) : Prop where
  away : ∀ j : Fin 64, j < first ∨ i < j → nodes[j] = r.nodes[j]
  passed : ∀ j : Fin 64, first ≤ j → j < i → PassedEntry r j nodes[j]
  visited : nodes[i] = some (visitedNode n)

/-- An ascending list at one of its members. -/
theorem sorted_at {list : List (Fin 64)} (sorted : list.Pairwise (· < ·)) {i : Fin 64} (mem : i ∈ list) :
    ∃ before behind, list = before ++ i :: behind ∧ ∀ j, j ∈ before ↔ j ∈ list ∧ j < i := by
  obtain ⟨before, behind, is⟩ := List.append_of_mem mem
  refine ⟨before, behind, is, fun j => ?_⟩
  rw [is] at sorted ⊢
  obtain ⟨_, later, across⟩ := List.pairwise_append.mp sorted
  constructor
  · exact fun inside => ⟨List.mem_append_left _ inside, across j inside i List.mem_cons_self⟩
  · rintro ⟨inside, less⟩
    rcases List.mem_append.mp inside with is | is
    · exact is
    · rcases List.mem_cons.mp is with rfl | behind'
      · exact absurd less (Fin.lt_irrefl _)
      · exact absurd ((List.pairwise_cons.mp later).1 j behind') (Fin.not_lt.mpr (Fin.le_of_lt less))

theorem sorted_once {list : List (Fin 64)} (sorted : list.Pairwise (· < ·)) : list.Nodup :=
  sorted.imp fun less => Fin.ne_of_lt less

/-- The walk over the indices from `first` on, to the first entry that is not passed over. -/
theorem walkNormal_visits {x y : State} (nodes : x.nodes = y.nodes) (queue : x.deck.queue = y.deck.queue)
    {list : List (Fin 64)} (sorted : list.Pairwise (· < ·)) {first i : Fin 64} (all : ∀ j, j ∈ list ↔ first ≤ j) {n : Node}
    (here : y.nodes[i] = some n) (from' : first ≤ i) (stands : ¬ PassedOver y i)
    (before : ∀ j, first ≤ j → j < i → PassedOver y j) :
    ∃ table, Visits y first i n table
      ∧ walkNormal list x = ((x.setNodes table).setDeck { x.deck with normalPointer := i + 1 }, some i) := by
  rw [← passedOver_congr nodes queue] at stands before
  rw [← nodes] at here
  obtain ⟨passed, behind, is, members⟩ := sorted_at sorted ((all i).mpr from')
  have once : passed.Nodup := (List.nodup_append.mp (is ▸ sorted_once sorted)).1
  have each (j : Fin 64) (mem : j ∈ passed) : PassedOver x j := by
    obtain ⟨inside, less⟩ := (members j).mp mem
    exact before j ((all j).mp inside) less
  obtain ⟨pointer, walked⟩ := walkNormal_passes once each (i :: behind)
  have notPassed : i ∉ passed := fun mem => Fin.lt_irrefl _ ((members i).mp mem).2
  obtain ⟨own, step, _⟩ := passedTo_away (s := x) notPassed pointer
  have stands' : ¬ PassedOver (passedTo x passed pointer) i := by
    rwa [← normalStep_visit, step, normalStep_visit]
  rw [is, walked, walkNormal_visit (own.trans here) stands']
  refine ⟨(passNodes x passed).set i (some (visitedNode n)), ⟨fun j outside => ?_, fun j low less => ?_, ?_⟩, rfl⟩
  · have other : j ≠ i ∧ j ∉ passed := by
      rcases outside with low | high
      · exact ⟨fun is => absurd (is ▸ low) (Fin.not_lt.mpr from'),
          fun mem => absurd low (Fin.not_lt.mpr ((all j).mp ((members j).mp mem).1))⟩
      · exact ⟨fun is => absurd high (is ▸ Fin.lt_irrefl _), fun mem => absurd high (Fin.not_lt.mpr (Fin.le_of_lt ((members j).mp mem).2))⟩
    rw [set_entry, if_neg other.1, passNodes_entry, if_neg other.2, nodes]
  · rw [← passedEntry_congr nodes queue, passedEntry_iff, set_entry, if_neg (Fin.ne_of_lt less), passNodes_entry,
      if_pos ((members j).mpr ⟨(all j).mpr low, less⟩)]
  · rw [set_entry, if_pos rfl]

/-- The walk over indices that are all passed over. -/
theorem walkNormal_none {x : State} {list : List (Fin 64)} (sorted : list.Pairwise (· < ·)) (each : ∀ j ∈ list, PassedOver x j) :
    ∃ pointer, walkNormal list x = (passedTo x list pointer, none) := by
  obtain ⟨pointer, walked⟩ := walkNormal_passes (sorted_once sorted) each []
  rw [List.append_nil] at walked
  exact ⟨pointer, walked.trans rfl⟩

/-! ### The next normal visit (R12) -/

theorem mem_nodeIndices (j : Fin 64) : j ∈ nodeIndices := List.mem_finRange j

theorem nodeIndices_sorted : nodeIndices.Pairwise (· < ·) := List.pairwise_lt_finRange 64

theorem roundRest_sorted (x : State) : (roundRest x).Pairwise (· < ·) := nodeIndices_sorted.filter _

theorem mem_roundRest (x : State) (j : Fin 64) : j ∈ roundRest x ↔ x.deck.normalPointer ≤ j := by
  unfold roundRest nodeIndices
  simp

theorem nextNormal_found {x w : State} {i : Fin 64} (walked : walkNormal (roundRest x) x = (w, some i)) :
    nextNormal x = (w, some i) := by
  unfold nextNormal
  rw [walked]

/-- The visit is in the round in hand. -/
theorem nextNormal_here {x y : State} (nodes : x.nodes = y.nodes) (queue : x.deck.queue = y.deck.queue) {i : Fin 64} {n : Node}
    (here : y.nodes[i] = some n) (from' : x.deck.normalPointer ≤ i) (stands : ¬ PassedOver y i)
    (before : ∀ j, x.deck.normalPointer ≤ j → j < i → PassedOver y j) :
    ∃ table, Visits y x.deck.normalPointer i n table
      ∧ nextNormal x = ((x.setNodes table).setDeck { x.deck with normalPointer := i + 1 }, some i) := by
  obtain ⟨table, visits, walked⟩ := walkNormal_visits nodes queue (roundRest_sorted x) (mem_roundRest x) here from' stands before
  exact ⟨table, visits, nextNormal_found walked⟩

/-- The round in hand passes over all that is left of it, which leaves the table of `r`. -/
structure RestPassed (x r : State) : Prop where
  queue : r.deck.queue = x.deck.queue
  behind : ∀ j : Fin 64, j < x.deck.normalPointer → r.nodes[j] = x.nodes[j]
  left : ∀ j : Fin 64, x.deck.normalPointer ≤ j → PassedOver x j ∧ PassedEntry x j r.nodes[j]

theorem RestPassed.walked {x r : State} (h : RestPassed x r) :
    ∃ pointer, walkNormal (roundRest x) x = ((x.setNodes r.nodes).setDeck { x.deck with normalPointer := pointer }, none) := by
  obtain ⟨pointer, walked⟩ := walkNormal_none (roundRest_sorted x) fun j mem => (h.left j ((mem_roundRest x j).mp mem)).1
  have table : passNodes x (roundRest x) = r.nodes := nodeTable_ext fun j => by
    rw [passNodes_entry]
    split
    · next mem => exact (passedEntry_iff.mp (h.left j ((mem_roundRest x j).mp mem)).2).symm
    · next away => exact (h.behind j (Fin.not_le.mp (mt (mem_roundRest x j).mpr away))).symm
  unfold passedTo at walked
  rw [table] at walked
  exact ⟨pointer, walked⟩

theorem nextNormal_next {x w : State} (walked : walkNormal (roundRest x) x = (w, none)) (visited : w.deck.roundVisited = true) :
    nextNormal x = (if (walkNormal nodeIndices (beginRound w)).2.isSome then walkNormal nodeIndices (beginRound w)
      else (beginRound (walkNormal nodeIndices (beginRound w)).1, none)) := by
  unfold nextNormal
  rw [walked]
  dsimp only
  rw [if_pos visited]
  rcases walkNormal nodeIndices (beginRound w) with ⟨v, _ | i⟩ <;> rfl

/-- The visit is the first of the next round. -/
theorem RestPassed.next {x r : State} (h : RestPassed x r) (visited : x.deck.roundVisited = true) {i : Fin 64} {n : Node}
    (here : r.nodes[i] = some n) (stands : ¬ PassedOver r i) (before : ∀ j, j < i → PassedOver r j) :
    ∃ table, Visits r 0 i n table ∧ nextNormal x =
      ((x.setNodes table).setDeck { x.deck with normalPointer := i + 1, roundVisited := false }, some i) := by
  obtain ⟨pointer, walked⟩ := h.walked
  obtain ⟨table, visits, again⟩ := walkNormal_visits (y := r)
    (x := beginRound ((x.setNodes r.nodes).setDeck { x.deck with normalPointer := pointer })) rfl h.queue.symm nodeIndices_sorted
    (first := 0) (fun j => iff_of_true (List.mem_finRange j) (Fin.zero_le j)) here (Fin.zero_le i) stands fun j _ => before j
  refine ⟨table, visits, ?_⟩
  rw [nextNormal_next walked visited, again]
  rfl

/-- The next round passes over every entry, too. -/
theorem RestPassed.empty {x r : State} (h : RestPassed x r) (visited : x.deck.roundVisited = true)
    (every : ∀ j, PassedOver r j) : nextNormal x =
      ((x.setNodes (passNodes r nodeIndices)).setDeck { x.deck with normalPointer := 0, roundVisited := false }, none) := by
  obtain ⟨pointer, walked⟩ := h.walked
  obtain ⟨b, isB⟩ : ∃ b, b = beginRound ((x.setNodes r.nodes).setDeck { x.deck with normalPointer := pointer }) := ⟨_, rfl⟩
  have nodesB : b.nodes = r.nodes := by rw [isB]; rfl
  have queueB : b.deck.queue = r.deck.queue := by rw [isB, h.queue]; rfl
  obtain ⟨pointer', again⟩ := walkNormal_none (x := b) nodeIndices_sorted fun j _ => by
    rw [passedOver_congr nodesB queueB]
    exact every j
  have table : passNodes b nodeIndices = passNodes r nodeIndices := nodeTable_ext fun j => by
    rw [passNodes_entry, passNodes_entry, if_pos (mem_nodeIndices j), if_pos (mem_nodeIndices j), ← passedEntry_iff,
      ← passedEntry_congr nodesB queueB]
    exact passedEntry_iff.mpr rfl
  rw [nextNormal_next walked visited, ← isB, again, if_neg (by exact nofun)]
  unfold passedTo
  rw [table, isB]
  rfl

/-- A round of which nothing has been taken passes over every entry. -/
theorem nextNormal_empty {x : State} (start : x.deck.normalPointer = 0) (visited : x.deck.roundVisited = false)
    (every : ∀ j, PassedOver x j) : nextNormal x =
      ((x.setNodes (passNodes x nodeIndices)).setDeck { x.deck with normalPointer := 0, roundVisited := false }, none) := by
  obtain ⟨pointer, walked⟩ := walkNormal_none (roundRest_sorted x) fun j _ => every j
  have whole : roundRest x = nodeIndices := List.filter_eq_self.mpr fun j _ => by
    rw [start, decide_eq_true_eq]
    exact Fin.zero_le j
  have stays : ¬ (passedTo x nodeIndices pointer).deck.roundVisited = true := by
    rw [show (passedTo x nodeIndices pointer).deck.roundVisited = x.deck.roundVisited from rfl, visited]
    exact Bool.false_ne_true
  unfold nextNormal
  rw [walked]
  dsimp only
  rw [whole, if_neg stays]
  rfl

/-! ### Priority visits (R15, R16) -/

theorem recallWindowOpen_iff {s : State} : recallWindowOpen s = true ↔
    ∃ w, s.clock.recallWindow = some w ∧ w.elapsed < w.span := by
  unfold recallWindowOpen expired timerDue
  cases s.clock.recallWindow <;> simp

theorem starterMatters_iff {s : State} : starterMatters s = true ↔ s.heat.state = .armed ∨ s.heat.state = .marks
    ∨ (s.heat.state = .running ∧ ∃ w, s.clock.recallWindow = some w ∧ w.elapsed < w.span) := by
  unfold starterMatters
  rw [Bool.or_eq_true, Bool.or_eq_true, Bool.and_eq_true, recallWindowOpen_iff, beq_iff_eq, beq_iff_eq, beq_iff_eq, or_assoc]

theorem takesPriorityVisit_iff {s : State} {i : Fin 64} : takesPriorityVisit s i = true ↔ PriorityMember s i := by
  unfold takesPriorityVisit inPrioritySet PriorityMember
  cases here : s.nodes[i] with
  | none => simp
  | some n =>
    dsimp only
    have starter := effectiveKind_first (.inl rfl) here
    have waits := panelWaits_iff here
    simp only [Bool.and_eq_true, Bool.or_eq_true, bne_iff_ne, beq_iff_eq, starter, starterMatters_iff,
      Bool.not_eq_true', ← Bool.not_eq_true, waits, Option.some.injEq, exists_eq_left']
    exact and_congr_left' (and_congr_right' (by rw [or_assoc, @or_comm (IsFirst s .starter i ∧ _)]))

theorem nextPriority_some {s : State} {i : Fin 64} (next : NextInRotation (PriorityMember s) s.deck.priorityPointer i) :
    nextPriority s = some i := by
  obtain ⟨member, rotation⟩ := next
  have found {p : Fin 64 → Bool} (holds : p i = true) (before : ∀ j, j < i → p j = false) : nodeIndices.find? p = some i :=
    find_finRange.mpr ⟨holds, before⟩
  have not {j : Fin 64} (no : ¬ PriorityMember s j) : takesPriorityVisit s j = false :=
    Bool.eq_false_iff.mpr (mt takesPriorityVisit_iff.mp no)
  have yes := takesPriorityVisit_iff.mpr member
  unfold nextPriority
  cases pointer : s.deck.priorityPointer with
  | none =>
    rw [pointer] at rotation
    exact found yes fun j less => not (rotation j less)
  | some p =>
    rw [pointer] at rotation
    dsimp only
    rcases rotation with ⟨above, between⟩ | ⟨below, above, before⟩
    · rw [found (p := fun i => p < i && takesPriorityVisit s i)]
      · exact (Bool.and_eq_true ..).mpr ⟨decide_eq_true above, yes⟩
      · intro j less
        by_cases higher : p < j
        · rw [not (between j higher less), Bool.and_false]
        · rw [decide_eq_false higher, Bool.false_and]
    · have nothing : nodeIndices.find? (fun i => p < i && takesPriorityVisit s i) = none := by
        refine List.find?_eq_none.mpr fun j _ hit => ?_
        obtain ⟨higher, takes⟩ := (Bool.and_eq_true ..).mp hit
        exact above j (of_decide_eq_true higher) (takesPriorityVisit_iff.mp takes)
      rw [nothing]
      exact found yes fun j less => not (before j less)

theorem nextPriority_none {s : State} (none : ∀ j, ¬ PriorityMember s j) : nextPriority s = Option.none := by
  have nothing {p : Fin 64 → Bool} (sub : ∀ j, p j = true → takesPriorityVisit s j = true) :
      nodeIndices.find? p = Option.none :=
    List.find?_eq_none.mpr fun j _ hit => none j (takesPriorityVisit_iff.mp (sub j hit))
  unfold nextPriority
  cases s.deck.priorityPointer with
  | none => exact nothing fun _ => id
  | some p =>
    dsimp only
    rw [nothing (p := fun i => p < i && takesPriorityVisit s i) fun j hit => ((Bool.and_eq_true ..).mp hit).2]
    exact nothing fun _ => id

end Sys2Proof.Machine
end
section
/-! POLL, EMPTY_ROUND and COMMAND_GAP (R7, R12 to R17, R21, R145). -/

namespace Sys2Proof.Machine

/-! ### The choice of the next exchange (R12, R13, R15, R21) -/

theorem mayChoose_of {now : Tick} {s : State} (serving : Serving s) (chooses : Chooses now s) :
    mayChoose (advanceTo now s) = true := by
  obtain ⟨load, hold⟩ := serving
  have runs : pollingRuns (advanceTo now s) = true :=
    (Bool.and_eq_true ..).mpr ⟨beq_iff_eq.mpr load, (Bool.not_eq_true' _).mpr hold⟩
  unfold mayChoose
  rw [runs, Bool.true_and]
  rcases chooses with ready | ⟨gap, empty⟩ | ⟨quiet, is, due⟩
  · have phase : (advanceTo now s).deck.phase = .ready := congrArg (runPhase _) ready
    rw [phase]
  · have phase : (advanceTo now s).deck.phase = .gap := congrArg (runPhase _) gap
    have queue : (advanceTo now s).deck.queue = [] := empty
    rw [phase, queue]
    rfl
  · rw [is]
    exact decide_eq_true due

/-- The state in which the next normal visit is looked for: the count of normal visits starts anew behind four (R15). -/
def dealt (s : State) : State :=
  s.setDeck { s.deck with normalCount := if s.deck.normalCount < 4 then s.deck.normalCount else 0 }

section
variable {u w : State} (free : u.deck.normalCount < 4 ∨ ∀ j, ¬ PriorityMember u j)
include free

/-- A normal visit is chosen. -/
theorem nextVisit_normal {i : Fin 64} (next : nextNormal (dealt u) = (w, some i)) :
    nextVisit u = (noteVisit i (w.setDeck { w.deck with normalCount := w.deck.normalCount + 1 }), some i) := by
  unfold nextVisit
  dsimp only
  by_cases few : u.deck.normalCount < 4
  · have same : dealt u = u := by
      unfold dealt
      rw [if_pos few]
      rfl
    rw [same] at next
    rw [if_neg (by exact Nat.not_le.mpr few), next]
  · have anew : dealt u = u.setDeck { u.deck with normalCount := 0 } := by
      unfold dealt
      rw [if_neg few]
    rw [if_pos (by exact Nat.le_of_not_lt few), nextPriority_none (free.resolve_left few)]
    dsimp only
    rw [← anew, next]

/-- An empty round is found. -/
theorem nextVisit_none (next : nextNormal (dealt u) = (w, none)) : nextVisit u = (w, none) := by
  unfold nextVisit
  dsimp only
  by_cases few : u.deck.normalCount < 4
  · have same : dealt u = u := by
      unfold dealt
      rw [if_pos few]
      rfl
    rw [same] at next
    rw [if_neg (by exact Nat.not_le.mpr few), next]
  · have anew : dealt u = u.setDeck { u.deck with normalCount := 0 } := by
      unfold dealt
      rw [if_neg few]
    rw [if_pos (by exact Nat.le_of_not_lt few), nextPriority_none (free.resolve_left few)]
    dsimp only
    rw [← anew, next]

end

/-- A priority visit is chosen. -/
theorem nextVisit_priority {u : State} {i : Fin 64} (four : 4 ≤ u.deck.normalCount)
    (next : NextInRotation (PriorityMember u) u.deck.priorityPointer i) : nextVisit u =
      (u.setDeck { u.deck with normalCount := 0, priorityPointer := some i, roundVisited := true }, some i) := by
  unfold nextVisit
  dsimp only
  rw [if_pos (by exact four), nextPriority_some next]
  rfl

theorem exec_poll_visits {now : Tick} {s w : State} {i : Fin 64} (may : mayChoose (advanceTo now s) = true)
    (next : nextVisit (advanceTo now s) = (w, some i)) : exec (.poll now) s = .next (sendPoll i w) := by
  have taken : exec (.poll now) s = execPoll now s := rfl
  rw [taken, execPoll, if_pos may, next]

theorem exec_poll_none {now : Tick} {s w : State} (may : mayChoose (advanceTo now s) = true)
    (next : nextVisit (advanceTo now s) = (w, none)) : exec (.poll now) s = .next (advanceTo now s) := by
  have taken : exec (.poll now) s = execPoll now s := rfl
  rw [taken, execPoll, if_pos may, next]

theorem exec_emptyRound_none {now : Tick} {s w : State} (may : mayChoose (advanceTo now s) = true)
    (next : nextVisit (advanceTo now s) = (w, none)) : exec (.emptyRound now) s =
      .next ((sendHead w).setDeck { (sendHead w).deck with phase := .quiet (freshTimer now 1000) }) := by
  have taken : exec (.emptyRound now) s = execEmptyRound now s := rfl
  rw [taken, execEmptyRound]
  dsimp only
  rw [if_pos may, next]
  dsimp only
  rw [startTimer_now]
  rfl

/-! ### The POLL of a station (R7) -/

theorem isPanel_entries {x y : NodeTable} (same : SameEntries x y) (station : Byte) : isPanel x station = isPanel y station := by
  have holds (i : Fin 64) : holdsStation x station i = holdsStation y station i := by
    have entry := same i
    unfold holdsStation
    cases there : x[i] with
    | none =>
      rw [there, Option.map_none, eq_comm, Option.map_eq_none_iff] at entry
      rw [entry]
    | some n =>
      rw [there, Option.map_some, eq_comm, Option.map_eq_some_iff] at entry
      obtain ⟨m, here, is⟩ := entry
      rw [here]
      dsimp only
      rw [is]
  unfold isPanel
  rw [firstOfKind_entries same]
  cases firstOfKind y .panel with
  | none => rfl
  | some i => exact holds i

/-- The twelve statuses that are enabled toward PANEL, in two bytes. -/
theorem noticeSummary_bits (s : State) : ∃ high low : Byte, noticeSummary s = [high, low]
    ∧ ∀ b : Nat, b < 16 → (high ++ low).getLsbD b = if h : b < 12 then
        s.orders.notices[b].status && s.orders.notices[b].enabled && s.orders.notices[b].direction == .panel else false := by
  obtain ⟨h, l, bytes, joined⟩ := be16_append (BitVec.ofNat 16 (flagNumber
    (s.orders.notices.toList.map fun n => n.status && n.enabled && n.direction == .panel)))
  refine ⟨h, l, bytes, fun b within => ?_⟩
  rw [joined b within, BitVec.getLsbD_ofNat, flagNumber_testBit]
  by_cases listed : b < 12 <;> simp [within, listed]

theorem pollOf_poll {s w : State} {i : Fin 64} {n : Node} (law : NodeLaw s) (here : s.nodes[i] = some n)
    (entries : SameEntries w.nodes s.nodes) (settings : w.settings = s.settings) (notices : w.orders.notices = s.orders.notices) :
    PollOf s i n.entry.station (pollTelegram w n.entry.station) := by
  have panel : isPanel w.nodes n.entry.station = true ↔ IsFirst s .panel i := by
    rw [isPanel_entries entries]
    exact isPanel_iff law here
  unfold pollTelegram
  rw [settings]
  refine ⟨rfl, rfl, rfl, fun not => if_neg (mt panel.mp not), fun is => ?_⟩
  obtain ⟨high, low, bytes, bits⟩ := noticeSummary_bits w
  rw [notices] at bits
  exact ⟨high, low, (if_pos (panel.mpr is)).trans bytes, bits⟩

theorem sendPoll_here {w : State} {i : Fin 64} {n : Node} (here : w.nodes[i] = some n) : sendPoll i w =
    w.setDeck { w.deck with
      line := some (pollTelegram w n.entry.station), phase := .awaiting n.entry.station (freshTimer w.now 60) } := by
  unfold sendPoll
  rw [here]
  dsimp only
  rw [startTimer_now]
  rfl

theorem Visits.entries {r : State} {first i : Fin 64} {n : Node} {table : NodeTable} (visits : Visits r first i n table)
    (here : r.nodes[i] = some n) : SameEntries table r.nodes := by
  intro j
  by_cases outside : j < first ∨ i < j
  · rw [visits.away j outside]
  · obtain ⟨low, high⟩ := not_or.mp outside
    rcases Fin.lt_or_eq_of_le (Fin.not_lt.mp high) with less | rfl
    · rw [passedEntry_iff.mp (visits.passed j (Fin.not_lt.mp low) less), passEntry_entry]
    · rw [visits.visited, here]
      exact congrArg some (visitedNode_entry n)

/-! ### POLL (R7, R12 to R17) -/

/-- What a round leaves for the next one to begin on has the entries of the round before. -/
theorem RoundBegins.same {s r : State} (begins : RoundBegins s r) : SameEntries r.nodes s.nodes := by
  rcases begins with ⟨_, _, rfl⟩ | ⟨_, nodes, rfl, each⟩
  · exact .refl _
  · intro j
    rw [State.setNodes_nodes]
    by_cases left : s.deck.normalPointer ≤ j
    · rw [passedEntry_iff.mp ((each j).2 left).2, passEntry_entry]
    · rw [(each j).1 (Fin.not_le.mp left)]

theorem RoundBegins.restPassed {s x r : State} (begins : RoundBegins s r) (visited : s.deck.roundVisited = true)
    (nodes : x.nodes = s.nodes) (queue : x.deck.queue = s.deck.queue) (pointer : x.deck.normalPointer = s.deck.normalPointer) :
    RestPassed x r := by
  rcases begins with ⟨_, fresh, _⟩ | ⟨_, table, rfl, each⟩
  · exact nomatch visited.symm.trans fresh
  · refine ⟨queue.symm, fun j low => ?_, fun j left => ?_⟩
    · rw [pointer] at low
      rw [nodes]
      exact (each j).1 low
    · rw [pointer] at left
      rw [passedOver_congr nodes queue, passedEntry_congr nodes queue]
      exact (each j).2 left

section
variable {now : Tick} {s : State} (serving : Serving s) (law : NodeLaw s) (chooses : Chooses now s)
include serving law chooses

/-- A normal visit is polled. -/
theorem exec_poll_normal (free : s.deck.normalCount < 4 ∨ ∀ j, ¬ PriorityMember (advanceTo now s) j) {i : Fin 64} {n : Node}
    {table : NodeTable} {visited : Bool} (entries : SameEntries table s.nodes) (known : s.nodes[i].map Node.entry = some n.entry)
    (here : table[i] = some (visitedNode n))
    (next : nextNormal (dealt (advanceTo now s)) = (((dealt (advanceTo now s)).setNodes table).setDeck
      { (dealt (advanceTo now s)).deck with normalPointer := i + 1, roundVisited := visited }, some i)) :
    ∃ poll, PollOf s i n.entry.station poll ∧ exec (.poll now) s = .next (((advanceTo now s).setNodes table).setDeck
      { (advanceTo now s).deck with
        normalPointer := i + 1, roundVisited := i != 63
        normalCount := if s.deck.normalCount < 4 then s.deck.normalCount + 1 else 1
        line := some poll, phase := .awaiting n.entry.station (freshTimer now 60) }) := by
  obtain ⟨m, there, is⟩ := Option.map_eq_some_iff.mp known
  have chosen := nextVisit_normal (u := advanceTo now s) free next
  obtain ⟨w, isW⟩ : ∃ w, w = ((advanceTo now s).setNodes table).setDeck { (advanceTo now s).deck with
      normalPointer := i + 1, roundVisited := i != 63
      normalCount := if s.deck.normalCount < 4 then s.deck.normalCount + 1 else 1 } := ⟨_, rfl⟩
  have counted : (if s.deck.normalCount < 4 then s.deck.normalCount else 0) + 1 =
      if s.deck.normalCount < 4 then s.deck.normalCount + 1 else 1 := by
    split <;> rfl
  have chosen' : nextVisit (advanceTo now s) = (w, some i) := by
    rw [chosen, isW, ← counted]
    rfl
  have hereW : w.nodes[i] = some (visitedNode n) := by rw [isW]; exact here
  refine ⟨pollTelegram w n.entry.station, ?_, ?_⟩
  · rw [← is]
    exact pollOf_poll law there (by rw [isW]; exact entries) (by rw [isW]; rfl) (by rw [isW]; rfl)
  · rw [exec_poll_visits (mayChoose_of serving chooses) chosen', sendPoll_here hereW, visitedNode_entry]
    generalize pollTelegram w n.entry.station = poll
    rw [isW]
    rfl

end

/-- Settles O9: the first entry that the normal pointer does not pass, in the round in hand or the next one, or the next
member in rotation. -/
theorem pollChoosesVisit : Obligations.PollChoosesVisit := by
  intro now s serving law chooses u polled VisitsFrom
  have inHand (free : s.deck.normalCount < 4 ∨ ∀ j, ¬ PriorityMember u j) : VisitsFrom s.deck.normalPointer s := by
    intro i n here from' stands before
    obtain ⟨table, visits, next⟩ := nextNormal_here (x := dealt u) (y := s) rfl rfl here from' stands before
    obtain ⟨poll, isPoll, is⟩ := exec_poll_normal serving law chooses free (visited := (dealt u).deck.roundVisited)
      (visits.entries here) (by rw [here]; rfl) visits.visited next
    exact ⟨table, poll, isPoll, visits.away, visits.passed, visits.visited, is⟩
  refine ⟨fun free => ⟨inHand free, fun r begins => ?_⟩, fun i n here four next => ?_⟩
  · rcases begins with ⟨start, _, rfl⟩ | ⟨visited, nodes, isR, each⟩
    · rw [← start]
      exact inHand free
    · have begins : RoundBegins s r := .inr ⟨visited, nodes, isR, each⟩
      intro i n here _ stands before
      have rest := begins.restPassed (x := dealt u) visited rfl rfl rfl
      obtain ⟨table, visits, next⟩ := rest.next visited here stands fun j => before j (Fin.zero_le j)
      have entries (j : Fin 64) := (visits.entries here j).trans (begins.same j)
      obtain ⟨poll, isPoll, is⟩ := exec_poll_normal serving law chooses free entries
        (by rw [← begins.same i, here]; rfl) visits.visited next
      exact ⟨table, poll, isPoll, visits.away, visits.passed, visits.visited, is⟩
  · have chosen := nextVisit_priority (u := u) four next
    refine ⟨_, pollOf_poll (w := u.setDeck { u.deck with normalCount := 0, priorityPointer := some i, roundVisited := true })
      law here (.refl _) rfl rfl, ?_⟩
    rw [exec_poll_visits (mayChoose_of serving chooses) chosen]
    exact congrArg Host.Outcome.next (sendPoll_here here)

/-! ### The command gap and the empty round (R12 to R14, R21, R145) -/

/-- The head of the deck command queue, if there is one, goes onto the line. -/
theorem sendHead_sent (w : State) : ∃ records, LampNoted w records
    ∧ sendHead w = (w.setDeck (gapSent w w.deck.phase)).setLamps { w.lamps with records := records } := by
  unfold LampNoted sendHead gapSent
  cases queue : w.deck.queue with
  | nil => exact ⟨w.lamps.records, fun _ => rfl, rfl⟩
  | cons e rest =>
    dsimp only
    rw [List.head?_cons]
    dsimp only
    unfold noteLampSent gapTelegram
    by_cases lit : ∃ lane, e.origin = .lamp lane
    · obtain ⟨lane, origin⟩ := lit
      refine ⟨w.lamps.records.set lane { w.lamps.records[lane] with lineState := e.telegram.payload == [1] }, fun l => ?_, ?_⟩
      · rw [set_entry, origin]
        by_cases same : l = lane
        · rw [if_pos same, if_pos (by rw [same]), same]
        · rw [if_neg same, if_neg fun is => same (by cases is; rfl)]
      · rw [origin]
        rfl
    · refine ⟨w.lamps.records, fun l => (if_neg fun is => lit ⟨l, is⟩).symm, ?_⟩
      cases origin : e.origin with
      | lamp lane => exact absurd ⟨lane, origin⟩ lit
      | query => rfl
      | response => rfl
      | passThrough => rfl

theorem gapSent_phase (w : State) (phase : DeckPhase) : { gapSent w w.deck.phase with phase := phase } = gapSent w phase := by
  unfold gapSent
  cases w.deck.queue <;> rfl

theorem gapSent_advanceTo (now : Tick) (s : State) (phase : DeckPhase) :
    gapSent (advanceTo now s) phase = gapSent s phase := by
  have queue : (advanceTo now s).deck.queue = s.deck.queue := rfl
  unfold gapSent
  rw [queue]
  cases s.deck.queue <;> rfl

/-- An empty round, as its walk leaves the table. -/
theorem nextNormal_emptyRound {s r x : State} (begins : RoundBegins s r) (every : ∀ j, PassedOver r j)
    (nodes : x.nodes = s.nodes) (queue : x.deck.queue = s.deck.queue) (pointer : x.deck.normalPointer = s.deck.normalPointer)
    (visited : x.deck.roundVisited = s.deck.roundVisited) : nextNormal x =
      ((x.setNodes (passNodes r nodeIndices)).setDeck { x.deck with normalPointer := 0, roundVisited := false }, none) := by
  rcases begins with ⟨start, fresh, rfl⟩ | ⟨taken, table, isR, each⟩
  · have same : passNodes x nodeIndices = passNodes r nodeIndices := nodeTable_ext fun j => by
      rw [passNodes_entry, passNodes_entry, if_pos (mem_nodeIndices j), if_pos (mem_nodeIndices j), ← passedEntry_iff,
        ← passedEntry_congr nodes queue]
      exact passedEntry_iff.mpr rfl
    rw [nextNormal_empty (pointer.trans start) (visited.trans fresh) (by rw [passedOver_congr nodes queue]; exact every), same]
  · have begins : RoundBegins s r := .inr ⟨taken, table, isR, each⟩
    exact (begins.restPassed taken nodes queue pointer).empty (visited.trans taken) every

/-- Settles O12: the head of the queue goes out in a command gap and in an empty round, in which POLL does nothing. -/
theorem deckGapSendsHead : Obligations.DeckGapSendsHead := by
  refine ⟨fun now s gap => ?_, fun now s r serving chooses begins => ?_⟩
  · obtain ⟨records, noted, sent⟩ := sendHead_sent (advanceTo now s)
    refine ⟨records, noted, ?_⟩
    have phase : (advanceTo now s).deck.phase = .gap := congrArg (runPhase _) gap
    have taken : exec (.commandGap now) s = execCommandGap now s := rfl
    have gapped : gapSent (advanceTo now s) .ready = gapSent s .ready := gapSent_advanceTo now s .ready
    rw [taken, execCommandGap, phase]
    dsimp only
    rw [sent, ← gapped, ← gapSent_phase (advanceTo now s) .ready]
    rfl
  · intro u every none
    have free : u.deck.normalCount < 4 ∨ ∀ j, ¬ PriorityMember u j := by
      by_cases few : s.deck.normalCount < 4
      · exact .inl few
      · exact .inr (none (Nat.le_of_not_lt few))
    have next := nextNormal_emptyRound (x := dealt u) begins every rfl rfl rfl rfl
    have chosen := nextVisit_none free next
    have may := mayChoose_of serving chooses
    obtain ⟨w, isW⟩ : ∃ w, w = ((dealt u).setNodes (passNodes r nodeIndices)).setDeck { (dealt u).deck with
        normalPointer := 0, roundVisited := false } := ⟨_, rfl⟩
    rw [← isW] at chosen
    obtain ⟨records, noted, sent⟩ := sendHead_sent w
    have lamps : w.lamps = u.lamps := by rw [isW]; rfl
    have queue : w.deck.queue = s.deck.queue := by rw [isW]; rfl
    have notedS : LampNoted s records := by
      unfold LampNoted at noted ⊢
      rw [lamps, queue] at noted
      exact noted
    refine ⟨exec_poll_none may chosen, passNodes r nodeIndices, records, fun j => ?_, notedS, ?_⟩
    · rw [passedEntry_iff, passNodes_entry, if_pos (mem_nodeIndices j)]
    · have gapped : gapSent w (.quiet (freshTimer now 1000)) = { gapSent s (.quiet (freshTimer now 1000)) with
          normalPointer := 0, roundVisited := false
          normalCount := if s.deck.normalCount < 4 then s.deck.normalCount else 0 } := by
        unfold gapSent
        rw [queue, isW]
        cases s.deck.queue <;> rfl
      rw [exec_emptyRound_none may chosen, ← gapped, ← gapSent_phase w, sent]
      generalize gapSent w w.deck.phase = d
      rw [isW]
      rfl

end Sys2Proof.Machine
end
